-- ==== Sys2Proof/Word.lean ====
section
/-! DEFINITION. The bit vectors of the SPWM block: the 32-bit operation word (spec/30_encoding.md R81) and the 8-bit
registers of the counter/compare unit (R84). Counts, indices and compare values are plain unsigned integers whose widths
`CW` and `CURW` are parameters (spec/00_scope.md R12); they are natural numbers here, and `fits` says that one of them
is in its width. -/

namespace Sys2Proof

/-- One operation word (R80, R81): a label of a step. -/
abbrev OpWord := BitVec 32

/-- One 8-bit register (R84). -/
abbrev Reg8 := BitVec 8

/-- `v` is an unsigned value of `width` bits. -/
abbrev fits (width v : Nat) : Prop := v < 2 ^ width

end Sys2Proof
end

