-- ==== Sys2Proof/Config.lean ====
section
/-! DEFINITION. What an implementation of the SPWM block fixes (spec/00_scope.md R9, R12) and the values the spec leaves
open. The parameters are a record of plain data carried, read-only, in the state (notes/assumptions/1.md), so a statement
about every state is a statement about every parameter set. -/

namespace Sys2Proof

/-- A boundary of the dual-slope count (spec/42_counter_compare.md R134). -/
inductive Boundary where
  | bottom
  | top
deriving DecidableEq, Repr

/-- `LATCH_POINT` (R12, R136): a non-empty subset of {BOTTOM, TOP}, one constructor for each of the three. -/
inductive LatchPoint where
  | bottom
  | top
  | both
deriving DecidableEq, Repr

/-- The parameters of a block (R9, R12). `table` lists `TABLE(0), TABLE(1), ...` (R12, R103). -/
structure Params where
  /-- `F_CLK`, hertz (R9). -/
  fClk : Nat
  /-- `F_OUT`, hertz (R9). -/
  fOut : Nat
  /-- `N`, steps per cycle (R9). -/
  n : Nat
  /-- `CW`, the width of CNT, TOP, the compare registers and the table entries (R12). -/
  cw : Nat
  /-- `CURW`, the width of CURSOR and FGPC (R12). -/
  curw : Nat
  /-- `LATCH_POINT` (R12). -/
  latch : LatchPoint
  /-- `TABLE` (R12), entry by entry. -/
  table : List Nat
deriving DecidableEq, Repr

/-- The table of the reference parameters, transcribed from spec/95_test_vectors.md section 2.1. -/
def Config.referenceTable : List Nat :=
  [0, 50, 100, 151, 201, 250, 300, 349, 398, 446] ++
  [494, 542, 589, 635, 681, 726, 771, 814, 857, 899] ++
  [940, 981, 1020, 1058, 1095, 1131, 1166, 1200, 1233, 1264] ++
  [1294, 1323, 1351, 1377, 1402, 1426, 1448, 1468, 1488, 1505] ++
  [1522, 1536, 1550, 1561, 1572, 1580, 1587, 1593, 1597, 1599] ++
  [1600, 1599, 1597, 1593, 1587, 1580, 1572, 1561, 1550, 1536] ++
  [1522, 1505, 1488, 1468, 1448, 1426, 1402, 1377, 1351, 1323] ++
  [1294, 1264, 1233, 1200, 1166, 1131, 1095, 1058, 1020, 981] ++
  [940, 899, 857, 814, 771, 726, 681, 635, 589, 542] ++
  [494, 446, 398, 349, 300, 250, 201, 151, 100, 50]

/-- The reference parameter set (R13) with the defaults of R12. The state after reset carries this one
(DESIGN CHOICE, notes/assumptions/1.md). -/
def Config.reference : Params where
  fClk := 16000000
  fOut := 50
  n := 200
  cw := 16
  curw := 16
  latch := .bottom
  table := Config.referenceTable

/-- FREE VALUE. Which of the enabled operations happens next when nothing names it: R116 and R176 leave the choice
free (notes/assumptions/3.md). No body: nothing can be proved of a value of it. -/
opaque Config.schedulerChoice : Nat → Nat

/-- FREE VALUE. The counter after `CNT + 1` at the top of its width or `CNT - 1` at 0, which R133 says never happens and
no rule gives a value for (notes/assumptions/8.md). The register keeps its width: the value is reduced to `CW` bits. -/
opaque Config.freeCount : Nat → Nat

end Sys2Proof
end

