-- ==== Sys2Proof/Syntax.lean ====
section
/-! DEFINITION. The operations of the SPWM block (spec/00_scope.md R14), one constructor per row of
spec/opcode_table.json. -/

namespace Sys2Proof

/-- The seven operations (R14, R82). The index of `tgen` is an entry number (R83), so it is a natural number;
`Instr.wellFormed` says which index an operation word can hold. -/
inductive Instr where
  /-- `RESET`: the reset input (R190). -/
  | reset
  /-- `TGEN i`: compute and store table entry `i` (R105). -/
  | tgen (i : Nat)
  /-- `CFG`: the hardware configuration contract (R117). -/
  | cfg
  /-- `SEI`: unmask interrupts (R119). -/
  | sei
  /-- `IDLE`: one pass of the empty main loop (R120). -/
  | idle
  /-- `TICK`: one timer clock (R131). -/
  | tick
  /-- `OVF`: one invocation of the overflow handler (R151). -/
  | ovf
deriving DecidableEq, Repr

/-- The mnemonic of R82. -/
def Instr.mnemonic : Instr → String
  | .reset => "RESET"
  | .tgen _ => "TGEN"
  | .cfg => "CFG"
  | .sei => "SEI"
  | .idle => "IDLE"
  | .tick => "TICK"
  | .ovf => "OVF"

end Sys2Proof
end

