-- ==== Sys2Proof/WellFormed.lean ====
section
/-! DEFINITION. Which operations an operation word can name (spec/30_encoding.md R81, R83): the index of `TGEN` is the
16-bit field `idx`. There is no other operand. -/

namespace Sys2Proof

/-- The operation has an operation word: the index of `TGEN` fits its 16-bit field (R81). -/
def Instr.wellFormed : Instr → Bool
  | .reset => true
  | .tgen i => decide (fits 16 i)
  | .cfg => true
  | .sei => true
  | .idle => true
  | .tick => true
  | .ovf => true

end Sys2Proof
end

