-- ==== Sys2Proof/Decode.lean ====
section
/-! DEFINITION. The decoder of operation words, total on 32-bit words and rejecting by name (spec/30_encoding.md R89),
and the encoder, both from the tables of R81 and R82. A word has no byte order: no access of this hardware is by bytes
(spec/20_memory.md R64). -/

namespace Sys2Proof

/-- Why a word is invalid (R89, R90). -/
inductive DecodeError where
  /-- `opc` is `0x7` to `0xF`. -/
  | reservedCode
  /-- `word[27:16]` is not 0. -/
  | zeroFieldNotZero
  /-- `opc` is not `0x1` and `word[15:0]` is not 0. -/
  | indexNotZero
deriving DecidableEq, Repr

/-- What a word decodes to: exactly one operation, or invalid (R89). -/
inductive Decoded where
  | op (i : Instr)
  | invalid (why : DecodeError)
deriving DecidableEq, Repr

/-- `opc`, bits 31:28 (R81). -/
def opcField (w : OpWord) : BitVec 4 := w.extractLsb' 28 4

/-- `zero`, bits 27:16 (R81). -/
def zeroField (w : OpWord) : BitVec 12 := w.extractLsb' 16 12

/-- `idx`, bits 15:0 (R81). -/
def idxField (w : OpWord) : BitVec 16 := w.extractLsb' 0 16

/-- An operation without operand: its `idx` field must be 0 (R81). -/
def decodePlain (i : Instr) (idx : BitVec 16) : Decoded :=
  if idx = 0 then .op i else .invalid .indexNotZero

/-- The operation that an operation code and an index name, the `zero` field being 0 (R82, R83). -/
def decodeFields (opc : BitVec 4) (idx : BitVec 16) : Decoded :=
  match opc.toNat with
  | 0 => decodePlain .reset idx
  | 1 => .op (.tgen idx.toNat)
  | 2 => decodePlain .cfg idx
  | 3 => decodePlain .sei idx
  | 4 => decodePlain .idle idx
  | 5 => decodePlain .tick idx
  | 6 => decodePlain .ovf idx
  | _ => .invalid .reservedCode

/-- The decoder (R89). Where a word is invalid for two reasons, the reserved code is named first, then the `zero` field
(notes/assumptions/21.md); the spec gives invalid words no names. -/
def decode (w : OpWord) : Decoded :=
  if 7 ≤ (opcField w).toNat then .invalid .reservedCode
  else if zeroField w = 0 then decodeFields (opcField w) (idxField w)
  else .invalid .zeroFieldNotZero

/-- The operation code (R82). -/
def opcodeOf : Instr → BitVec 4
  | .reset => 0x0#4
  | .tgen _ => 0x1#4
  | .cfg => 0x2#4
  | .sei => 0x3#4
  | .idle => 0x4#4
  | .tick => 0x5#4
  | .ovf => 0x6#4

/-- The `idx` field (R81): the index of `TGEN`, 0 elsewhere. -/
def indexOf : Instr → BitVec 16
  | .reset => 0
  | .tgen i => BitVec.ofNat 16 i
  | .cfg => 0
  | .sei => 0
  | .idle => 0
  | .tick => 0
  | .ovf => 0

/-- The operation word: `opc`, `zero`, `idx`, high bits first (R81). -/
def encode (i : Instr) : OpWord := opcodeOf i ++ 0#12 ++ indexOf i

/-- The operation word whose low `nbits` bits are those of `w` and whose other bits are 0. -/
def tableWord (nbits w : Nat) : OpWord := BitVec.ofNat 32 (w % 2 ^ nbits)

/-- The instruction the decoder reads from a row's word of spec/opcode_table.json, `none` where it refuses. -/
def decodeTableWord (nbits w : Nat) : Option Instr :=
  match decode (tableWord nbits w) with
  | .op i => some i
  | .invalid _ => none

end Sys2Proof
end

