-- ==== Sys2Proof/Machine/State.lean ====
section
/-! DEFINITION. The state of the SPWM block, every piece of state that spec/10_state.md gives it, as plain data, and the
reset state (R45). Three fields at the end are the model's own: the parameters, the trace of operation words still to
perform, and the counter that numbers free values. -/

namespace Sys2Proof.Machine

/-- `DIR`, the counting direction (R34, R87). -/
inductive Dir where
  | up
  | down
deriving DecidableEq, Repr

/-- The faults of R172. A step that faults records the name in `FAULT` and changes nothing else (R171 (c)); that is a
next state from which only `RESET` goes on, so no step of this machine ends in `Host.Outcome.fault`
(notes/assumptions/4.md). -/
inductive Fault where
  /-- Recorded by `OVF` when `CURSOR >= H` at its load step (R61, R172). The spec's own; safe: no value is invented. -/
  | indexOutOfRange
  /-- Recorded by `OVF` when the entry at `CURSOR` is unwritten (R61, R172). The spec's own; safe. -/
  | unwrittenTableRead
deriving DecidableEq, Repr

/-- Why the machine gives a word or an operation no step. Each one is safe: nothing happens. -/
inductive Refusal where
  /-- An instruction without a meaning. No instruction of this model answers with it; safe. -/
  | notModelled (mnemonic : String)
  /-- The next word of the trace is invalid (R89): raised by `step` when it decodes the word. Safe. -/
  | invalidWord (why : DecodeError)
  /-- The operation is not enabled in this state (R171 (b), R176): raised by every operation but `RESET`. Safe. -/
  | notEnabled (mnemonic : String)
  /-- `MODE.WGM` or `PRESC.CS` is reserved and neither is 0 (R132): raised by `TICK`, which then has no step. Safe. -/
  | timerSettingReserved
  /-- The parameters are ill formed, so the block has no behaviour at all (R11): raised by every operation. Safe. -/
  | illFormedParameters
deriving DecidableEq, Repr

/-- The Waveform Table as a list of (index, entry) pairs in one canonical form: indices strictly rising. An index that
is not listed reads as `unwritten` (R23), which is no value, so no entry equals what an unlisted index reads as
(notes/assumptions/12.md). -/
abbrev Memory := List (Nat × Nat)

/-- The state of the block (spec/10_state.md). Registers of `CW` or `CURW` bits are natural numbers
(notes/assumptions/11.md). -/
structure State where
  /-- `FGPC`, the foreground sequence counter, CURW bits (R21). -/
  fgpc : Nat
  /-- `T`, the Waveform Table (R23). -/
  table : Memory
  /-- `CURSOR`, the Playback Cursor, CURW bits (R24). -/
  cursor : Nat
  /-- `PENDING`, the Pending-Switch Flag: false is NORMAL, true is DEFERRED_SWITCH (R25, R87). -/
  pending : Bool
  /-- `TMASK`, the Channel-Toggle Mask (R26). -/
  tmask : Reg8
  /-- `MODE` (R27). -/
  mode : Reg8
  /-- `PRESC` (R28). -/
  presc : Reg8
  /-- `TOP`, CW bits (R29). -/
  top : Nat
  /-- `CHEN`, the channel-enable configuration (R30). -/
  chen : Reg8
  /-- `CMPA_BUF`, CW bits (R31). -/
  cmpaBuf : Nat
  /-- `CMPB_BUF`, CW bits (R31). -/
  cmpbBuf : Nat
  /-- `CMPA_ACT`, CW bits (R32). -/
  cmpaAct : Nat
  /-- `CMPB_ACT`, CW bits (R32). -/
  cmpbAct : Nat
  /-- `CNT`, the live counter, CW bits (R33). -/
  cnt : Nat
  /-- `DIR` (R34). -/
  dir : Dir
  /-- `IEN` (R35). -/
  ien : Reg8
  /-- `IFR` (R36). -/
  ifr : Reg8
  /-- `GIE`, the global interrupt mask, one bit (R37). -/
  gie : Bool
  /-- `DDR` (R38). -/
  ddr : Reg8
  /-- `FAULT`, the fault record (R39). -/
  fault : Option Fault
  /-- `K`, the invocation count, a ghost (R40). -/
  k : Nat
  /-- The MODEL's own: the parameters (R9, R12), read-only (notes/assumptions/1.md). -/
  params : Params
  /-- The MODEL's own: the operation words of the trace still to perform (R88; notes/assumptions/2.md). -/
  trace : List OpWord
  /-- The MODEL's own: how many free values have been used (notes/assumptions/3.md). -/
  fresh : Nat
deriving DecidableEq, Repr

/-- The state after reset (R45), with the reference parameters (R13) and no word to perform. -/
def State.reset : State where
  fgpc := 0
  table := []
  cursor := 0
  pending := false
  tmask := 0
  mode := 0
  presc := 0
  top := 0
  chen := 0
  cmpaBuf := 0
  cmpbBuf := 0
  cmpaAct := 0
  cmpbAct := 0
  cnt := 0
  dir := .up
  ien := 0
  ifr := 0
  gie := false
  ddr := 0
  fault := none
  k := 0
  params := Config.reference
  trace := []
  fresh := 0

end Sys2Proof.Machine
end

