-- ==== Sys2Proof/Machine/Flags.lean ====
section
/-! DEFINITION. The fields of the 8-bit registers (spec/30_encoding.md R85) and the one-bit pieces of state
(spec/10_state.md R42). A bit that R85 does not name reads 0 and is written 0: every read below looks only at the named
bits, every write puts 0 elsewhere (notes/assumptions/9.md). There are no arithmetic flags (R42). -/

namespace Sys2Proof.Machine

/-- `MODE.WGM`, bits 1:0 (R27, R85). -/
def State.wgm (s : State) : BitVec 2 := s.mode.extractLsb' 0 2

/-- `PRESC.CS`, bits 2:0 (R28, R85). -/
def State.cs (s : State) : BitVec 3 := s.presc.extractLsb' 0 3

/-- `CHEN.CONA`, bit 0 (R30, R85). -/
def State.conA (s : State) : Bool := s.chen.getLsbD 0

/-- `CHEN.CONB`, bit 1 (R30, R85). -/
def State.conB (s : State) : Bool := s.chen.getLsbD 1

/-- `IEN.OVF`, bit 0 (R35, R85). -/
def State.ienOvf (s : State) : Bool := s.ien.getLsbD 0

/-- `IFR.OVF`, bit 0 (R36, R85). -/
def State.ifrOvf (s : State) : Bool := s.ifr.getLsbD 0

/-- `DDR.A`, bit 0 (R38, R85). -/
def State.ddrA (s : State) : Bool := s.ddr.getLsbD 0

/-- `DDR.B`, bit 1 (R38, R85). -/
def State.ddrB (s : State) : Bool := s.ddr.getLsbD 1

/-- `CHEN` read as a whole: its named bits, 0 elsewhere (R63, R85). -/
def State.chenVal (s : State) : Reg8 := s.chen &&& 0x03

/-- `TMASK` read as a whole: its named bits, 0 elsewhere (R63, R85). -/
def State.tmaskVal (s : State) : Reg8 := s.tmask &&& 0x03

/-- `MODE.WGM <- v` (R85: the other bits are written 0). -/
def setWgm (v : BitVec 2) (s : State) : State := { s with mode := v.setWidth 8 }

/-- `PRESC.CS <- v` (R85). -/
def setCs (v : BitVec 3) (s : State) : State := { s with presc := v.setWidth 8 }

/-- `CHEN <- v` (R85). It takes effect at once (R30). -/
def setChen (v : Reg8) (s : State) : State := { s with chen := v &&& 0x03 }

/-- `TMASK <- v` (R85). -/
def setTmask (v : Reg8) (s : State) : State := { s with tmask := v &&& 0x03 }

/-- `IEN.OVF <- b` (R85). -/
def setIenOvf (b : Bool) (s : State) : State := { s with ien := (BitVec.ofBool b).setWidth 8 }

/-- `IFR.OVF <- b` (R36, R85). -/
def setIfrOvf (b : Bool) (s : State) : State := { s with ifr := (BitVec.ofBool b).setWidth 8 }

/-- `DDR <- v` (R85). -/
def setDdr (v : Reg8) (s : State) : State := { s with ddr := v &&& 0x03 }

/-- `GIE <- b` (R37). -/
def setGie (b : Bool) (s : State) : State := { s with gie := b }

/-- `PENDING <- b` (R25). -/
def setPending (b : Bool) (s : State) : State := { s with pending := b }

/-- `DIR <- d` (R34). -/
def setDir (d : Dir) (s : State) : State := { s with dir := d }

end Sys2Proof.Machine
end

