-- ==== Sys2Proof/Machine/Operands.lean ====
section
/-! DEFINITION. Where an operation's operand comes from. Only `TGEN` has one in its word (spec/30_encoding.md R83); the
one address a rule computes is the index `OVF` reads (spec/43_playback_handler.md R164). -/

namespace Sys2Proof.Machine

/-- The table index of `TGEN`: the entry number itself, neither scaled nor sign-extended (R83). An index that does not
fit `CURW` bits is compared as the number it is, so it is never enabled (notes/assumptions/14.md). -/
def tgenIndex (i : Nat) : Nat := i

/-- The effective index of `OVF`'s table read: `CURSOR`, no scaling, no offset, no extension (R164). -/
def ovfIndex (s : State) : Nat := s.cursor

end Sys2Proof.Machine
end

