-- ==== Sys2Proof/Machine/Parameters.lean ====
section
/-! DEFINITION. What is derived from the parameters (spec/00_scope.md R10), when they are well formed (R11), and the
exact table `Texact`, the default of `TABLE` (spec/40_table_generation.md R101, R102), computed in integers without any
rounding (notes/assumptions/19.md). -/

namespace Sys2Proof

/-- `M = F_CLK / (F_OUT * N)`, the maximum compare value and the counter's top value (R10). -/
def Params.m (p : Params) : Nat := p.fClk / (p.fOut * p.n)

/-- `H = N / 2`, the length of the Waveform Table (R10). -/
def Params.h (p : Params) : Nat := p.n / 2

/-- `TABLE(i)` (R12). Under `Params.WellFormed` the list has exactly the entries `0 .. H-1`. -/
def Params.entry (p : Params) (i : Nat) : Nat := p.table.getD i 0

/-- What makes parameters well formed: the positivity of R9, clauses (a) to (d) of R11 in their order, and `TABLE` a
function on `[0, H)` (R12) whose values `TableWrite` can store (R62; notes/assumptions/6.md). -/
abbrev Params.Clauses (p : Params) : Prop :=
  (0 < p.fClk ∧ 0 < p.fOut) ∧
  (p.n % 2 = 0 ∧ 4 ≤ p.n) ∧
  p.fClk % (p.fOut * p.n) = 0 ∧
  (1 ≤ p.m ∧ fits p.cw p.m) ∧
  p.h + 3 ≤ 2 ^ p.curw ∧
  (p.table.length = p.h ∧ ∀ v ∈ p.table, fits p.cw v)

/-- The parameters are well formed (R11). -/
def Params.wellFormed (p : Params) : Bool := decide p.Clauses

namespace Machine

/-! ### The exact table

`turns a d j` holds, in natural numbers, the `j`-th power of the complex number `a + r * I` where `r * r = d`, turned back by
the `q` right angles that its argument has passed, so that it lies in the first quadrant. What is left is `u + v * r * I`
when `q` is even and `u * r + v * I` when `q` is odd. For `d = b * b - a * a` the argument of the base is
`arccos (a / b)`, so `q` after `n` turns is the greatest `q` with `q * (pi / 2) <= n * arccos (a / b)`, and that decides how
`a / b` compares with the cosine, hence the sine, of a rational multiple of `pi`. -/

/-- A power, turned back into the first quadrant, with the number of right angles its argument has passed. -/
structure Turn where
  u : Nat
  v : Nat
  q : Nat
deriving DecidableEq, Repr

/-- One more factor `a + r * I`, with `0 < a` and `r * r = d > 0`: it turns by less than a right angle, so it passes at most
one. -/
def nextTurn (a d : Nat) (t : Turn) : Turn :=
  if t.q % 2 = 0 then
    if d * t.v < a * t.u then { u := a * t.u - d * t.v, v := a * t.v + t.u, q := t.q }
    else { u := a * t.v + t.u, v := d * t.v - a * t.u, q := t.q + 1 }
  else
    if t.v < a * t.u then { u := a * t.u - t.v, v := a * t.v + d * t.u, q := t.q }
    else { u := a * t.v + d * t.u, v := t.v - a * t.u, q := t.q + 1 }

/-- The `j`-th power. -/
def turns (a d : Nat) : Nat → Turn
  | 0 => { u := 1, v := 0, q := 0 }
  | j + 1 => nextTurn a d (turns a d j)

/-- `sin (2 * pi * i / n) < a / b`, for even `n`, `2 * i <= n` and `0 < a < b`. The sine is the cosine of
`(n - 4 * i') / n` right angles with `i'` the index mirrored into the rising half (R104 (c)). -/
def sineBelow (n i a b : Nat) : Bool :=
  decide ((turns a (b * b - a * a) n).q < n - 4 * min i (n / 2 - i))

/-- The greatest value that `lo` plus a number of `bits` bits takes with `ok`, by bisection; it is at most `m`. -/
def bisect (ok : Nat → Bool) (m : Nat) : Nat → Nat → Nat
  | 0, lo => lo
  | bits + 1, lo =>
    if lo + 2 ^ bits ≤ m ∧ ok (lo + 2 ^ bits) = true then bisect ok m bits (lo + 2 ^ bits) else bisect ok m bits lo

/-- `Texact(i) = RoundHalfUp (M * sin (2 * pi * i / N))` (R101), as the greatest `t` with
`t - 1/2 <= M * sin (2 * pi * i / N)` (R102: a tie rounds upward). -/
def texact (n m i : Nat) : Nat :=
  bisect (fun t => !sineBelow n i (2 * t - 1) (2 * m)) m (m.log2 + 1) 0

/-- The parameters of a block from the three source parameters (R9), everything else at its default (R12). -/
def defaultParams (fClk fOut n : Nat) : Params where
  fClk := fClk
  fOut := fOut
  n := n
  cw := 16
  curw := 16
  latch := .bottom
  table := (List.range (n / 2)).map (texact n (fClk / (fOut * n)))

end Machine
end Sys2Proof
end

