-- ==== Sys2Proof/Machine/Ops.lean ====
section
/-! DEFINITION. The shared operations: the Waveform Table (spec/20_memory.md R60 to R62), taking a fault
(spec/60_exceptions.md R171), the entry to the handler and the return from it (R177, R178, R180), dispatch (R175, R176),
the counter's arithmetic, the latch and the buffers, and reset. -/

namespace Sys2Proof.Machine

/-- What an operation answers. -/
abbrev Result := Host.Outcome State Fault Refusal

/-! ### The Waveform Table -/

/-- The entry at `i`: a value, or `none` for `unwritten` (R23, R60). -/
def Memory.read : Memory → Nat → Option Nat
  | [], _ => none
  | (j, v) :: rest, i => if j = i then some v else Memory.read rest i

/-- `T[i] <- v`, keeping the indices strictly rising. -/
def Memory.write : Memory → Nat → Nat → Memory
  | [], i, v => [(i, v)]
  | (j, u) :: rest, i, v =>
    if i < j then (i, v) :: (j, u) :: rest
    else if i = j then (i, v) :: rest
    else (j, u) :: Memory.write rest i v

/-- The canonical form: indices strictly rising. An unlisted index reads as `unwritten`, which no entry is. -/
abbrev Memory.wf (m : Memory) : Prop := m.Pairwise (fun a b => a.1 < b.1)

/-- `TableRead(i)` (R61): a fault on a bad index or an unwritten entry. A read changes nothing. -/
def tableRead (i : Nat) (s : State) : Except Fault Nat :=
  if s.params.h ≤ i then .error .indexOutOfRange
  else
    match s.table.read i with
    | none => .error .unwrittenTableRead
    | some v => .ok v

/-- `TableWrite(i, v)` (R62). Its caller has `i < H`, and `Params.wellFormed` has `v` in `CW` bits. -/
def tableWrite (i v : Nat) (s : State) : State := { s with table := s.table.write i v }

/-! ### Faults, the handler's entry and its return -/

/-- Taking a fault (R39, R171 (c)): `FAULT <- f` and no other state changes. -/
def takeFault (f : Fault) (s : State) : State := { s with fault := some f }

/-- Entry to the handler (R177, R178): nothing is saved, no mode changes, control goes to the one handler; the first
effect is `IFR.OVF <- 0`. -/
def enterHandler (s : State) : State := setIfrOvf false s

/-- Return from the handler (R180): nothing is restored because nothing was saved; `GIE` stays as it is. -/
def leaveHandler (s : State) : State := s

/-! ### Dispatch -/

/-- `OvfEnabled` (R175). -/
def ovfEnabled (s : State) : Bool := decide (s.fault = none) && s.ifrOvf && s.ienOvf && s.gie

/-- What R176 asks of every operation but `RESET` and `OVF`: no fault, and no overflow to be taken first. -/
def mayRun (s : State) : Bool := decide (s.fault = none) && !ovfEnabled s

/-- Ill-formed parameters give the block no behaviour at all (R11). -/
def ifWellFormed (s : State) (answer : Result) : Result :=
  if s.params.wellFormed = true then answer else .refused .illFormedParameters

/-- An operation that is not enabled is no step; a schedule that asks for it is refused (R88, R171 (b)). -/
def ifEnabled (i : Instr) (enabled : Bool) (answer : Result) : Result :=
  if enabled = true then answer else .refused (.notEnabled i.mnemonic)

/-! ### Registers -/

/-- `FGPC <- FGPC + 1` (R21). -/
def advanceFgpc (s : State) : State := { s with fgpc := s.fgpc + 1 }

/-- `CURSOR <- v` (R24). -/
def setCursor (v : Nat) (s : State) : State := { s with cursor := v }

/-- `K <- K + 1` (R40). -/
def countInvocation (s : State) : State := { s with k := s.k + 1 }

/-- `TOP <- v` (R29). -/
def setTop (v : Nat) (s : State) : State := { s with top := v }

/-- `CNT <- v` (R33). -/
def setCnt (v : Nat) (s : State) : State := { s with cnt := v }

/-- `CNT` takes a value that no rule states: a free value of `CW` bits (notes/assumptions/8.md). -/
def setCntFree (s : State) : State :=
  { s with cnt := Config.freeCount s.fresh % 2 ^ s.params.cw, fresh := s.fresh + 1 }

/-- `CNT <- CNT + 1` (R131). R133 says the sum always fits its `CW` bits; where it does not, no rule gives its value. -/
def countUp (s : State) : State := if fits s.params.cw (s.cnt + 1) then setCnt (s.cnt + 1) s else setCntFree s

/-- `CNT <- CNT - 1` (R131). R133 says it is never taken at 0; there no rule gives its value. -/
def countDown (s : State) : State := if 0 < s.cnt then setCnt (s.cnt - 1) s else setCntFree s

/-- `CMPA_BUF <- v ; CMPB_BUF <- v` (R155): the same value in both, whichever channel is active. -/
def loadBuffers (v : Nat) (s : State) : State := { s with cmpaBuf := v, cmpbBuf := v }

/-- `CMPA_ACT <- CMPA_BUF ; CMPB_ACT <- CMPB_BUF` (R136). -/
def latchBuffers (s : State) : State := { s with cmpaAct := s.cmpaBuf, cmpbAct := s.cmpbBuf }

/-- `b in LATCH_POINT` (R12, R136). -/
def latchesAt : LatchPoint → Boundary → Bool
  | .bottom, .bottom => true
  | .bottom, .top => false
  | .top, .bottom => false
  | .top, .top => true
  | .both, .bottom => true
  | .both, .top => true

/-- Every piece of state takes its reset value (R45, R190). The parameters are not state and survive (R190); so do the
model's own `trace` and `fresh` (notes/assumptions/16.md). -/
def resetState (s : State) : State :=
  { State.reset with params := s.params, trace := s.trace, fresh := s.fresh }

end Sys2Proof.Machine
end

