-- ==== Sys2Proof/Machine/Counter.lean ====
section
/-! DEFINITION. The counter/compare unit: `TICK` (spec/42_counter_compare.md R131 to R137). -/

namespace Sys2Proof.Machine

/-- The counter is stopped (R132): `MODE.WGM = 0` or `PRESC.CS = 0`. -/
def timerStopped (s : State) : Bool := decide (s.wgm = 0) || decide (s.cs = 0)

/-- `MODE.WGM` or `PRESC.CS` is reserved and neither is 0 (R91, R132): `TICK` has no step. -/
def timerReserved (s : State) : Bool := !timerStopped s && !(decide (s.wgm = 1) && decide (s.cs = 1))

/-- When `TICK` is enabled (R131, R176). -/
def enabledTick (s : State) : Bool := mayRun s && !timerReserved s

/-- The tick's arrival at a boundary (R131, in the order of R137): BOTTOM sets the overflow flag (R135), and a boundary
of `LATCH_POINT` latches both buffers (R136). -/
def arriveAt (b : Boundary) (s : State) : State :=
  let flagged := match b with
    | .bottom => setIfrOvf true s
    | .top => s
  if latchesAt s.params.latch b = true then latchBuffers flagged else flagged

/-- One count up: at TOP, decided on the new value of `CNT`, the direction turns and the tick arrives there (R131). -/
def tickUp (s : State) : State :=
  let counted := countUp s
  if counted.cnt = counted.top then arriveAt .top (setDir .down counted) else counted

/-- One count down: at 0, decided on the new value of `CNT`, the direction turns and the tick arrives at BOTTOM (R131). -/
def tickDown (s : State) : State :=
  let counted := countDown s
  if counted.cnt = 0 then arriveAt .bottom (setDir .up counted) else counted

/-- One timer clock (R131): nothing while the counter is stopped (R132). -/
def clockTick (s : State) : State :=
  if timerStopped s = true then s
  else
    match s.dir with
    | .up => tickUp s
    | .down => tickDown s

/-- `TICK` (R131). -/
def execTick (s : State) : Result :=
  ifWellFormed s (ifEnabled .tick (mayRun s)
    (if timerReserved s = true then .refused .timerSettingReserved else .next (clockTick s)))

end Sys2Proof.Machine
end

