-- ==== Sys2Proof/Machine/Playback.lean ====
section
/-! DEFINITION. The playback handler: `OVF`, one invocation (spec/43_playback_handler.md R150 to R156). -/

namespace Sys2Proof.Machine

/-- The rows of the handler's state machine (R150, R161). -/
inductive HandlerRow where
  /-- Row 1: flip the channels. -/
  | flip
  /-- Row 2: wrap the cursor. -/
  | wrap
  /-- Row 3: no channel action. -/
  | none
deriving DecidableEq, Repr

/-- The row that fires: tried in the order of R151, at most one of them (R157). -/
def handlerRow (s : State) : HandlerRow :=
  if s.pending = true then .flip else if s.params.h ≤ s.cursor then .wrap else .none

/-- The row's action (R152, R153, R154). -/
def rowAction : HandlerRow → State → State
  | .flip, s => setPending false (setChen (s.chenVal ^^^ s.tmaskVal) s)
  | .wrap, s => setPending true (setCursor 0 s)
  | .none, s => s

/-- Where the invocation stands after entry and its row's action, before the load (R151). -/
def afterRow (s : State) : State := rowAction (handlerRow s) (enterHandler s)

/-- One invocation (R151): entry, the row, the load (R155), the increment (R156), the ghost count, the return. A load that
faults takes the fault and changes nothing else, the entry and the row undone (R171 (c)). -/
def handlerInvocation (s : State) : State :=
  let acted := afterRow s
  match tableRead (ovfIndex acted) acted with
  | .error f => takeFault f s
  | .ok v => leaveHandler (countInvocation (setCursor (acted.cursor + 1) (loadBuffers v acted)))

/-- `OVF` (R151). -/
def execOvf (s : State) : Result := ifWellFormed s (ifEnabled .ovf (ovfEnabled s) (.next (handlerInvocation s)))

end Sys2Proof.Machine
end

