-- ==== Sys2Proof/Machine/Reset.lean ====
section
/-! DEFINITION. `RESET` (spec/70_reset_and_hazards.md R190). -/

namespace Sys2Proof.Machine

/-- `RESET` (R190, R176): enabled in every state, faulted states included. -/
def execReset (s : State) : Result := ifWellFormed s (.next (resetState s))

end Sys2Proof.Machine
end

