-- ==== Sys2Proof/Machine/Startup.lean ====
section
/-! DEFINITION. The foreground operations other than `TGEN`: `CFG`, `SEI` and `IDLE`
(spec/41_startup_configuration.md R117, R119, R120). -/

namespace Sys2Proof.Machine

/-- When `CFG` is enabled (R117, R176). -/
def enabledCfg (s : State) : Bool := mayRun s && decide (s.fgpc = s.params.h)

/-- The configuration contract, one atomic step, its writes in the order of R117. -/
def configure (s : State) : State :=
  advanceFgpc (setDdr 0b11 (setIenOvf true (setCs 1 (setTmask 0b11 (setChen 0b01 (setTop s.params.m (setWgm 1 s)))))))

/-- `CFG` (R117). -/
def execCfg (s : State) : Result := ifWellFormed s (ifEnabled .cfg (enabledCfg s) (.next (configure s)))

/-- When `SEI` is enabled (R119, R176). -/
def enabledSei (s : State) : Bool := mayRun s && decide (s.fgpc = s.params.h + 1)

/-- `SEI` (R119): `GIE <- 1`, then `FGPC <- FGPC + 1`. -/
def execSei (s : State) : Result :=
  ifWellFormed s (ifEnabled .sei (enabledSei s) (.next (advanceFgpc (setGie true s))))

/-- When `IDLE` is enabled (R120, R176). -/
def enabledIdle (s : State) : Bool := mayRun s && decide (s.fgpc = s.params.h + 2)

/-- `IDLE` (R120): a step that changes nothing. -/
def execIdle (s : State) : Result := ifWellFormed s (ifEnabled .idle (enabledIdle s) (.next s))

end Sys2Proof.Machine
end

