-- ==== Sys2Proof/Machine/TableGen.lean ====
section
/-! DEFINITION. The Sine Table Generator: `TGEN i` (spec/40_table_generation.md R105). What it stores, `TABLE(i)`, is a
parameter (R103); its default `Texact` is computed in Machine/Parameters.lean. -/

namespace Sys2Proof.Machine

/-- When `TGEN i` is enabled (R105, R176): entries are generated in ascending order, once each. -/
def enabledTgen (i : Nat) (s : State) : Bool :=
  mayRun s && decide (s.fgpc = tgenIndex i) && decide (tgenIndex i < s.params.h)

/-- `TGEN i` (R105): `TableWrite(i, TABLE(i))`, then `FGPC <- FGPC + 1`. -/
def execTgen (i : Nat) (s : State) : Result :=
  ifWellFormed s (ifEnabled (.tgen i) (enabledTgen i s)
    (.next (advanceFgpc (tableWrite (tgenIndex i) (s.params.entry (tgenIndex i)) s))))

end Sys2Proof.Machine
end

