-- ==== Sys2Proof/Machine/Dispatch.lean ====
section
/-! DEFINITION. The meaning of each operation, one arm each. -/

namespace Sys2Proof.Machine

def exec (i : Instr) (s : State) : Host.Outcome State Fault Refusal :=
  match i with
  | .reset => Sys2Proof.Machine.execReset s
  | .tgen idx => Sys2Proof.Machine.execTgen idx s
  | .cfg => Sys2Proof.Machine.execCfg s
  | .sei => Sys2Proof.Machine.execSei s
  | .idle => Sys2Proof.Machine.execIdle s
  | .tick => Sys2Proof.Machine.execTick s
  | .ovf => Sys2Proof.Machine.execOvf s

end Sys2Proof.Machine
end

