-- ==== Sys2Proof/Machine/Fetch.lean ====
section
/-! DEFINITION. Which operation happens next. The block fetches no instruction: its operations are selected by its own
state (spec/30_encoding.md R80, spec/60_exceptions.md R176). The words of `State.trace`, while there are any, name the
operations one after another (R88); with none left, one of the enabled operations happens, and a free value says which
(notes/assumptions/2.md, notes/assumptions/3.md). -/

namespace Sys2Proof.Machine

/-- Which operation is enabled (R176), in a block whose parameters are well formed. -/
def enabled (s : State) : Instr → Bool
  | .reset => true
  | .tgen i => enabledTgen i s
  | .cfg => enabledCfg s
  | .sei => enabledSei s
  | .idle => enabledIdle s
  | .tick => enabledTick s
  | .ovf => ovfEnabled s

/-- The foreground operation that `FGPC` selects (R21). -/
def foregroundOp (s : State) : Instr :=
  if s.fgpc < s.params.h then .tgen s.fgpc
  else if s.fgpc = s.params.h then .cfg
  else if s.fgpc = s.params.h + 1 then .sei
  else .idle

/-- The operations enabled in a state, of each agent (R176): `RESET`, `OVF`, the foreground's, `TICK`. -/
def enabledOps (s : State) : List Instr :=
  [.reset, .ovf, foregroundOp s, .tick].filter (enabled s)

/-- The choice among the enabled operations is free (R116, R176): the free value numbered `fresh` makes it. -/
def chooseOp (s : State) : Instr :=
  (enabledOps s).getD (Config.schedulerChoice s.fresh % (enabledOps s).length) .reset

/-- The next operation and the state it starts from: the next word of the trace, or the free choice. -/
def nextOp (s : State) : Except Refusal (Instr × State) :=
  match s.trace with
  | w :: rest =>
    match decode w with
    | .op i => .ok (i, { s with trace := rest })
    | .invalid why => .error (.invalidWord why)
  | [] =>
    if s.params.wellFormed = true then .ok (chooseOp s, { s with fresh := s.fresh + 1 })
    else .error .illFormedParameters

/-- `s` with one more operation word, to be performed before the words it already holds. -/
def placeWord (w : OpWord) (s : State) : State := { s with trace := w :: s.trace }

/-- `s` with what selects an operation as the block's next one, and nothing else (notes/assumptions/2.md): the foreground's
operations are selected by `FGPC` (R21), `OVF` by its request, its enable and the mask (R175); `RESET` comes from outside
and `TICK` from the clock, and nothing selects them. -/
def selectOp (i : Instr) (s : State) : State :=
  match i with
  | .reset => s
  | .tgen idx => { s with fgpc := idx }
  | .cfg => { s with fgpc := s.params.h }
  | .sei => { s with fgpc := s.params.h + 1 }
  | .idle => { s with fgpc := s.params.h + 2 }
  | .tick => s
  | .ovf => setGie true (setIenOvf true (setIfrOvf true s))

/-- `s` with a word as the next one to perform and with the operation it names selected. -/
def placeSelected (w : OpWord) (s : State) : State :=
  match decode w with
  | .op i => placeWord w (selectOp i s)
  | .invalid _ => placeWord w s

end Sys2Proof.Machine
end

