-- ==== Sys2Proof/Machine/Step.lean ====
section
/-! DEFINITION. One step of the block: one operation of one agent (spec/00_scope.md R14). -/

namespace Sys2Proof.Machine

/-- One step: the next operation is performed, with the outcome of R171. -/
def step (s : State) : Host.Outcome State Fault Refusal :=
  match nextOp s with
  | .ok (i, t) => exec i t
  | .error r => .refused r

/-- `s` with an instruction's word where `step` takes its next operation, at the head of the trace, and with that
operation selected, so that the very next step performs it (notes/assumptions/2.md). -/
def State.withFetchWord (s : State) (nbits w : Nat) : State := placeSelected (tableWord nbits w) s

end Sys2Proof.Machine
end

