-- ==== Sys2Proof/Machine/Observe.lean ====
section
/-! DEFINITION. What is observed of a run (spec/00_scope.md R15): the pins and the handler's records, functions of the
state and no state of their own (spec/10_state.md R41; spec/42_counter_compare.md R139 to R141;
spec/43_playback_handler.md R161). -/

namespace Sys2Proof.Machine

/-- The two compare channels. -/
inductive Channel where
  | a
  | b
deriving DecidableEq, Repr

/-- The other channel: the transition function of the two-valued view (R87, R141). -/
def Channel.other : Channel → Channel
  | .a => .b
  | .b => .a

/-- The value of a pin: 0, 1 or `Z`, not driven (spec/00_scope.md section 6). -/
inductive Level where
  | low
  | high
  | z
deriving DecidableEq, Repr

/-- `CMPx_ACT` (R32). -/
def activeCompare (s : State) : Channel → Nat
  | .a => s.cmpaAct
  | .b => s.cmpbAct

/-- `CHEN.CONx` (R30). -/
def connected (s : State) : Channel → Bool
  | .a => s.conA
  | .b => s.conB

/-- `DDR.x` (R38). -/
def driven (s : State) : Channel → Bool
  | .a => s.ddrA
  | .b => s.ddrB

/-- The channel waveform `OCx` (R139). -/
def waveform (s : State) (x : Channel) : Bool := decide (s.wgm = 1) && decide (s.cnt < activeCompare s x)

/-- The pin `OUTx` (R140). -/
def pin (s : State) (x : Channel) : Level :=
  if driven s x = false then .z
  else if connected s x = true ∧ waveform s x = true then .high
  else .low

/-- `(OUTA, OUTB)`, one point of the pin trace (R15, R140). -/
def pins (s : State) : Level × Level := (pin s .a, pin s .b)

/-- The active channel (R87, R141): `none` where `CHEN` is neither `0x01` nor `0x02`. -/
def activeChannel (s : State) : Option Channel :=
  if s.chenVal = 0x01 then some .a else if s.chenVal = 0x02 then some .b else none

/-- Where the counter stands in its period of `2 * TOP` ticks, counted from BOTTOM (R133, R134). -/
def phase (s : State) : Nat :=
  match s.dir with
  | .up => s.cnt
  | .down => 2 * s.top - s.cnt

/-- One record of the handler trace (R161). -/
structure HandlerRecord where
  /-- The invocation number, from 0 after reset. -/
  k : Nat
  row : HandlerRow
  /-- The table index read. -/
  index : Nat
  /-- The value written to both buffers. -/
  value : Nat
  /-- `CHEN` when the invocation ends. -/
  chenAfter : Reg8
deriving DecidableEq, Repr

/-- The record of the invocation that `OVF` performs from `s`; none if its load faults (notes/assumptions/17.md). -/
def handlerRecord (s : State) : Option HandlerRecord :=
  match tableRead (ovfIndex (afterRow s)) (afterRow s) with
  | .error _ => none
  | .ok v => some ⟨s.k, handlerRow s, ovfIndex (afterRow s), v, (handlerInvocation s).chenVal⟩

/-- One thing an observer sees. -/
inductive Event where
  /-- A point of the pin trace. -/
  | pins (outA outB : Level)
  /-- A record of the handler trace. -/
  | handler (r : HandlerRecord)
deriving DecidableEq, Repr

/-- What is seen of an operation performed from `s` to `t` (R15): the pins after every `TICK` and every `OVF`, and the
record of every `OVF`. -/
def observe (i : Instr) (s t : State) : List Event :=
  match i with
  | .reset => []
  | .tgen _ => []
  | .cfg => []
  | .sei => []
  | .idle => []
  | .tick => [.pins (pin t .a) (pin t .b)]
  | .ovf =>
    match handlerRecord s with
    | none => [.pins (pin t .a) (pin t .b)]
    | some r => [.handler r, .pins (pin t .a) (pin t .b)]

/-- The handler trace among what was seen. -/
def handlerTrace (seen : List Event) : List HandlerRecord :=
  seen.filterMap fun e =>
    match e with
    | .handler r => some r
    | .pins _ _ => none

/-- The pin trace among what was seen. -/
def pinTrace (seen : List Event) : List (Level × Level) :=
  seen.filterMap fun e =>
    match e with
    | .handler _ => none
    | .pins x y => some (x, y)

end Sys2Proof.Machine
end

