-- ==== Sys2Proof/Machine/Schedule.lean ====
section
/-! DEFINITION. Traces, schedules and their runs (spec/30_encoding.md R88), and the pseudo-operations (R94). A trace names
every operation, `OVF` included; a schedule names none of the `OVF`s, which are performed where they are enabled. -/

namespace Sys2Proof.Machine

/-- Why a run stopped before its last word. -/
inductive Stop where
  | refused (r : Refusal)
  | fault (f : Fault)
deriving DecidableEq, Repr

/-- A run so far: where it stands, the operations it performed, what was seen, and whether it was stopped. -/
structure Run where
  state : State
  performed : List Instr
  seen : List Event
  stopped : Option Stop
deriving DecidableEq, Repr

/-- A run that has performed nothing. -/
def Run.start (s : State) : Run := { state := s, performed := [], seen := [], stopped := none }

/-- One operation of a run; a refused one stops the run and leaves the state unchanged (R88). -/
def perform (i : Instr) (r : Run) : Run :=
  match r.stopped with
  | some _ => r
  | none =>
    match exec i r.state with
    | .next t => { r with state := t, performed := r.performed ++ [i], seen := r.seen ++ observe i r.state t }
    | .fault f => { r with stopped := some (.fault f) }
    | .refused x => { r with stopped := some (.refused x) }

/-- The run of a trace: its operations one after another. -/
def runTrace (ops : List Instr) (s : State) : Run := ops.foldl (fun r i => perform i r) (Run.start s)

/-- While `OVF` is enabled, perform it (R88). Once is enough: `OVF` clears the flag or records a fault (R178, R171). -/
def takePending (r : Run) : Run := if ovfEnabled r.state = true then perform .ovf r else r

/-- One scheduled operation: the pending `OVF` first. -/
def performScheduled (i : Instr) (r : Run) : Run := perform i (takePending r)

/-- The run of a schedule (R88): `OVF` wherever it is enabled before a scheduled operation and after the last. An `OVF` in
the schedule itself is never enabled by then, so it is refused. -/
def runSchedule (ops : List Instr) (s : State) : Run :=
  takePending (ops.foldl (fun r i => performScheduled i r) (Run.start s))

/-- One scheduled word; an invalid one is refused like one that is not enabled (R89). -/
def performScheduledWord (w : OpWord) (r : Run) : Run :=
  match decode w with
  | .op i => performScheduled i r
  | .invalid why =>
    let pending := takePending r
    match pending.stopped with
    | some _ => pending
    | none => { pending with stopped := some (.refused (.invalidWord why)) }

/-- The run of a schedule of operation words (R88). -/
def runScheduleWords (ws : List OpWord) (s : State) : Run :=
  takePending (ws.foldl (fun r w => performScheduledWord w r) (Run.start s))

/-- `TICK n` (R94). -/
def pseudoTick (n : Nat) : List Instr := List.replicate n .tick

/-- `PERIOD`: one full counter period, `2 * M` ticks (R94). -/
def pseudoPeriod (p : Params) : List Instr := pseudoTick (2 * p.m)

/-- `STARTUP`: the table, the configuration, the unmasking (R94, R192). -/
def pseudoStartup (p : Params) : List Instr := (List.range p.h).map Instr.tgen ++ [.cfg, .sei]

/-- `RUN k`: `k` periods (R94). -/
def pseudoRun (p : Params) (k : Nat) : List Instr := (List.replicate k (pseudoPeriod p)).flatten

end Sys2Proof.Machine
end

