-- ==== Sys2Proof/Machine/Text.lean ====
section
/-! DEFINITION. The text form of schedules and traces (spec/30_encoding.md R93, R94): one operation a line or separated
by a semicolon, mnemonics in capitals, numbers in decimal after one space, comments from a number sign to the end of the
line. -/

namespace Sys2Proof.Machine

/-- One item of a text: an operation, or a pseudo-operation of R94. -/
inductive TextOp where
  | op (i : Instr)
  | ticks (n : Nat)
  | period
  | startup
  | run (k : Nat)
deriving DecidableEq, Repr

/-- What an item stands for (R94). -/
def TextOp.expand (p : Params) : TextOp → List Instr
  | .op i => [i]
  | .ticks n => pseudoTick n
  | .period => pseudoPeriod p
  | .startup => pseudoStartup p
  | .run k => pseudoRun p k

/-- The pieces of a text between the characters that separate. -/
def splitAtChar (sep : Char → Bool) : List Char → List (List Char)
  | [] => [[]]
  | x :: xs =>
    match splitAtChar sep xs with
    | [] => [[x]]
    | piece :: pieces => if sep x = true then [] :: piece :: pieces else (x :: piece) :: pieces

/-- A line without its comment. -/
def dropComment : List Char → List Char
  | [] => []
  | x :: xs => if x = '#' then [] else x :: dropComment xs

/-- A piece without the blanks at its front. -/
def dropBlanks : List Char → List Char
  | [] => []
  | x :: xs => if x = ' ' then dropBlanks xs else x :: xs

/-- A piece without the blanks at its ends. -/
def trimBlanks (cs : List Char) : List Char := (dropBlanks (dropBlanks cs).reverse).reverse

/-- A decimal digit. -/
def digitValue (c : Char) : Option Nat :=
  if '0'.toNat ≤ c.toNat ∧ c.toNat ≤ '9'.toNat then some (c.toNat - '0'.toNat) else none

/-- A decimal number continued. -/
def decimalFrom : Nat → List Char → Option Nat
  | n, [] => some n
  | n, c :: cs =>
    match digitValue c with
    | none => none
    | some d => decimalFrom (10 * n + d) cs

/-- A decimal number of at least one digit. -/
def decimal : List Char → Option Nat
  | [] => none
  | c :: cs => decimalFrom 0 (c :: cs)

/-- A piece's mnemonic and what follows its first blank. -/
def firstWord : List Char → List Char × Option (List Char)
  | [] => ([], none)
  | x :: xs => if x = ' ' then ([], some xs) else ((x :: (firstWord xs).1), (firstWord xs).2)

/-- One item (R82, R93, R94). -/
def parseItem (cs : List Char) : Option TextOp :=
  match firstWord cs with
  | (['R', 'E', 'S', 'E', 'T'], none) => some (.op .reset)
  | (['T', 'G', 'E', 'N'], some n) => (decimal n).map fun i => .op (.tgen i)
  | (['C', 'F', 'G'], none) => some (.op .cfg)
  | (['S', 'E', 'I'], none) => some (.op .sei)
  | (['I', 'D', 'L', 'E'], none) => some (.op .idle)
  | (['T', 'I', 'C', 'K'], none) => some (.op .tick)
  | (['T', 'I', 'C', 'K'], some n) => (decimal n).map .ticks
  | (['O', 'V', 'F'], none) => some (.op .ovf)
  | (['P', 'E', 'R', 'I', 'O', 'D'], none) => some .period
  | (['S', 'T', 'A', 'R', 'T', 'U', 'P'], none) => some .startup
  | (['R', 'U', 'N'], some n) => (decimal n).map .run
  | _ => none

/-- The items of a text: lines, comments dropped, split at semicolons, empty pieces left out. -/
def textItems (cs : List Char) : List (List Char) :=
  (((splitAtChar (fun c => c == '\n') cs).map fun line =>
    (splitAtChar (fun c => c == ';') (dropComment line)).map trimBlanks).flatten).filter fun item => !item.isEmpty

/-- A text read item by item; none if an item is no operation. -/
def parseText (cs : List Char) : Option (List TextOp) := (textItems cs).mapM parseItem

/-- The operations a text names, its pseudo-operations expanded (R94). -/
def textOperations (p : Params) (cs : List Char) : Option (List Instr) :=
  (parseText cs).map fun items => (items.map (TextOp.expand p)).flatten

/-- The text of an operation (R93). -/
def instrText : Instr → String
  | .reset => "RESET"
  | .tgen i => "TGEN " ++ toString i
  | .cfg => "CFG"
  | .sei => "SEI"
  | .idle => "IDLE"
  | .tick => "TICK"
  | .ovf => "OVF"

end Sys2Proof.Machine
end

