-- ==== Sys2Proof/Machine/Registers.lean ====
section
/-! DEFINITION. The register number space of the counter/compare unit (spec/30_encoding.md R84, spec/10_state.md R44).
The numbers only name registers in the spec and in a trace: no operation takes one as an operand (spec/20_memory.md
R63). -/

namespace Sys2Proof.Machine

/-- The twelve numbered registers (R84). -/
inductive RegName where
  | mode
  | presc
  | top
  | chen
  | cmpa
  | cmpb
  | cnt
  | ien
  | ifr
  | ddr
  | gie
  | tmask
deriving DecidableEq, Repr

/-- The register's number (R84). -/
def regNumber : RegName → Nat
  | .mode => 0
  | .presc => 1
  | .top => 2
  | .chen => 3
  | .cmpa => 4
  | .cmpb => 5
  | .cnt => 6
  | .ien => 7
  | .ifr => 8
  | .ddr => 9
  | .gie => 10
  | .tmask => 11

/-- The register with a number; numbers 12 and above do not exist (R68). -/
def regOfNumber : Nat → Option RegName
  | 0 => some .mode
  | 1 => some .presc
  | 2 => some .top
  | 3 => some .chen
  | 4 => some .cmpa
  | 5 => some .cmpb
  | 6 => some .cnt
  | 7 => some .ien
  | 8 => some .ifr
  | 9 => some .ddr
  | 10 => some .gie
  | 11 => some .tmask
  | _ => none

/-- The register's width in bits (R84). -/
def regWidth (p : Params) : RegName → Nat
  | .top => p.cw
  | .cmpa => p.cw
  | .cmpb => p.cw
  | .cnt => p.cw
  | .mode => 8
  | .presc => 8
  | .chen => 8
  | .ien => 8
  | .ifr => 8
  | .ddr => 8
  | .gie => 8
  | .tmask => 8

/-- The register's whole value (R63): its named bits, 0 in the bits that R85 does not name. The number of a compare
register stands for its buffer, the half that is visible (R31, R84). -/
def readReg (s : State) : RegName → Nat
  | .mode => s.wgm.toNat
  | .presc => s.cs.toNat
  | .top => s.top
  | .chen => s.chenVal.toNat
  | .cmpa => s.cmpaBuf
  | .cmpb => s.cmpbBuf
  | .cnt => s.cnt
  | .ien => s.ienOvf.toNat
  | .ifr => s.ifrOvf.toNat
  | .ddr => (s.ddr &&& 0x03).toNat
  | .gie => s.gie.toNat
  | .tmask => s.tmaskVal.toNat

end Sys2Proof.Machine
end

