-- ==== Sys2Proof/Safety.lean ====
section
/-! DEFINITION. What the claims are about: the widths of the state, the invariants of the states reachable from reset
(spec/10_state.md R46, spec/42_counter_compare.md R133), the closed forms of the handler (spec/43_playback_handler.md
R159, R160) and of the latched values (spec/42_counter_compare.md R143), the deferral that keeps a switch free of
glitches (spec/70_reset_and_hazards.md R197, R198), and the exact and the conforming tables in real arithmetic
(spec/40_table_generation.md R101 to R103). Each invariant of the state is a decidable proposition. -/

namespace Sys2Proof.Machine

/-! ### Every state -/

/-- Every value is in its width (spec/10_state.md), and the bits that R85 does not name are 0. -/
abbrev WidthOk (s : State) : Prop :=
  (fits s.params.curw s.fgpc ∧ fits s.params.curw s.cursor) ∧
  (fits s.params.cw s.top ∧ fits s.params.cw s.cnt) ∧
  (fits s.params.cw s.cmpaBuf ∧ fits s.params.cw s.cmpbBuf) ∧
  (fits s.params.cw s.cmpaAct ∧ fits s.params.cw s.cmpbAct) ∧
  (∀ e ∈ s.table, fits s.params.cw e.2) ∧
  (s.mode &&& 0xFC = 0 ∧ s.presc &&& 0xF8 = 0 ∧ s.chen &&& 0xFC = 0 ∧ s.tmask &&& 0xFC = 0) ∧
  (s.ien &&& 0xFE = 0 ∧ s.ifr &&& 0xFE = 0 ∧ s.ddr &&& 0xFC = 0)

/-! ### The states reachable from reset: R46, clause by clause, and R133 -/

/-- R46 (c), with what `TGEN` stores (R105): the entries below `FGPC` are written, no other is. -/
abbrev TableForm (s : State) : Prop :=
  s.table.wf ∧ (∀ e ∈ s.table, e.1 < s.params.h) ∧
  ∀ i < s.params.h, s.table.read i = if i < s.fgpc then some (s.params.entry i) else none

/-- R46 (g), first half: every register of R26 to R38 has its reset value. -/
abbrev RegistersAtReset (s : State) : Prop :=
  (s.tmask = 0 ∧ s.mode = 0 ∧ s.presc = 0 ∧ s.top = 0 ∧ s.chen = 0) ∧
  (s.cmpaBuf = 0 ∧ s.cmpbBuf = 0 ∧ s.cmpaAct = 0 ∧ s.cmpbAct = 0) ∧
  (s.cnt = 0 ∧ s.dir = .up ∧ s.ien = 0 ∧ s.ifr = 0 ∧ s.gie = false ∧ s.ddr = 0)

/-- R46 (g), second half: the registers hold what `CFG` writes, `CHEN` one of its two legal values. -/
abbrev Configured (s : State) : Prop :=
  (s.mode = 1 ∧ s.presc = 1 ∧ s.top = s.params.m ∧ s.tmask = 0b11) ∧
  (s.ien = 1 ∧ s.ddr = 0b11 ∧ (s.chen = 0b01 ∨ s.chen = 0b10)) ∧ (s.ifr = 0 ∨ s.ifr = 1)

/-- R133: counting up stays below `TOP`, counting down stays above 0. -/
abbrev CounterForm (s : State) : Prop :=
  (s.dir = .up → s.cnt < s.top) ∧ (s.dir = .down → 1 ≤ s.cnt)

/-- The invariant of R46, for well-formed parameters and no fault. -/
abbrev BlockInv (s : State) : Prop :=
  (s.params.wellFormed = true ∧ s.fault = none) ∧
  s.cnt ≤ s.top ∧
  s.fgpc ≤ s.params.h + 2 ∧
  TableForm s ∧
  s.cursor ≤ s.params.h ∧
  (s.pending = true → s.cursor = 1) ∧
  (s.cmpaBuf = s.cmpbBuf ∧ s.cmpaAct = s.cmpbAct) ∧
  (s.fgpc ≤ s.params.h → RegistersAtReset s) ∧
  (s.params.h < s.fgpc → Configured s ∧ CounterForm s) ∧
  (s.gie = true ↔ s.fgpc = s.params.h + 2) ∧
  (0 < s.k → s.gie = true)

/-! ### The handler's closed forms -/

/-- How many flips have been performed when invocation `k` ends (R160). -/
def flipsAfter (h k : Nat) : Nat := (k - 1) / h

/-- `CHEN` when invocation `k` ends (R160): channel A active when the number of flips is even, B when it is odd. -/
def chenAfter (h k : Nat) : Reg8 := if flipsAfter h k % 2 = 0 then 0b01 else 0b10

/-- The row of invocation `k` (R160): the wraps are `mH`, the flips `mH + 1`, for `m >= 1`. -/
def rowOf (h k : Nat) : HandlerRow :=
  if h ≤ k ∧ k % h = 0 then .wrap else if h < k ∧ k % h = 1 then .flip else .none

/-- The record of invocation `k` (R159, R160, R161). -/
def recordOf (p : Params) (k : Nat) : HandlerRecord :=
  { k := k, row := rowOf p.h k, index := k % p.h, value := p.entry (k % p.h), chenAfter := chenAfter p.h k }

/-- The handler's state after `K` invocations, the last of them invocation `K - 1` (R159, R160, R193). -/
abbrev HandlerForm (s : State) : Prop :=
  (s.k = 0 → (s.cursor = 0 ∧ s.pending = false) ∧ (s.cmpaBuf = 0 ∧ s.cmpaAct = 0) ∧
    (s.params.h < s.fgpc → s.chen = 0b01)) ∧
  (0 < s.k → s.cursor = (s.k - 1) % s.params.h + 1 ∧
    (s.pending = true ↔ s.params.h ≤ s.k - 1 ∧ (s.k - 1) % s.params.h = 0) ∧
    s.cmpaBuf = s.params.entry ((s.k - 1) % s.params.h) ∧ s.chen = chenAfter s.params.h (s.k - 1))

/-- What the active registers hold with `LATCH_POINT = {BOTTOM}` (R136, R143): between a BOTTOM and the invocation it
requests the last value written, otherwise the one before it, and 0 until a value has been latched. -/
abbrev ActiveForm (s : State) : Prop :=
  s.params.latch = .bottom →
    s.cmpaAct =
      if s.k = 0 then 0
      else if s.ifrOvf = true then s.params.entry ((s.k - 1) % s.params.h)
      else if s.k = 1 then 0
      else s.params.entry ((s.k - 2) % s.params.h)

/-- The deferral (R197, R198), for every `LATCH_POINT`: once an invocation has run, a requested one runs right at
BOTTOM; and a wrap's value `T[0]` is active when the invocation after it is requested. -/
abbrev DeferralForm (s : State) : Prop :=
  (0 < s.k → s.ifrOvf = true → s.cnt = 0 ∧ s.dir = .up) ∧
  (s.pending = true → s.ifrOvf = true → s.cmpaAct = s.params.entry 0) ∧
  (s.pending = true → s.dir = .down → s.params.latch = .top → s.cmpaAct = s.params.entry 0)

/-- The state from which a block with parameters `p` starts: the reset state, the parameters apart. -/
def startState (p : Params) : State := { State.reset with params := p }

/-- `n` timer clocks, one after another; none if one of them is no step. -/
def runTicks : Nat → State → Option State
  | 0, s => some s
  | n + 1, s =>
    match exec .tick s with
    | .next t => runTicks n t
    | .fault _ => none
    | .refused _ => none

/-! ### The exact and the conforming tables, in real arithmetic -/

/-- `t = RoundHalfUp (M * amplitude(i))`, in the form of R102: `t - 1/2 <= M * sin (2 pi i / N) < t + 1/2`. -/
def IsTexact (n m i t : Nat) : Prop :=
  (t : ℝ) - 1 / 2 ≤ (m : ℝ) * Real.sin (2 * Real.pi * (i : ℝ) / (n : ℝ)) ∧
  (m : ℝ) * Real.sin (2 * Real.pi * (i : ℝ) / (n : ℝ)) < (t : ℝ) + 1 / 2

/-- A conforming `TABLE` (R103): (a) bounds, (b) zero at 0, (c) within one count, (d) rise then fall. -/
def Conforming (n m : Nat) (table : Nat → Nat) : Prop :=
  (∀ i < n / 2, table i ≤ m) ∧
  table 0 = 0 ∧
  (∀ i < n / 2, |(table i : ℝ) - (m : ℝ) * Real.sin (2 * Real.pi * (i : ℝ) / (n : ℝ))| ≤ 1) ∧
  ∃ peak < n / 2, (∀ i j, i ≤ j → j ≤ peak → table i ≤ table j) ∧
    ∀ i j, peak ≤ i → i ≤ j → j < n / 2 → table j ≤ table i

end Sys2Proof.Machine
end

