-- ==== Sys2Proof/Certificates/Slice0/Obligations.lean ====
section
/-! DEFINITION. The statements for the provers, each from the numbered rules of spec/. -/

open Sys2Proof Sys2Proof.Machine

/-! ### Operation words -/

/-- R89: the decoder is total, its invalid words are exactly the ones the rule lists (said here of the word's bits, not of
the decoder's own field functions), an invalid word is refused and changes no state, and decoding and encoding are
inverse to each other both ways. -/
def Obligations.DecodeAndEncodeAreInverse : Prop :=
  (∀ i : Instr, i.wellFormed = true → decode (encode i) = .op i) ∧
  (∀ (w : OpWord) (i : Instr), decode w = .op i → encode i = w ∧ i.wellFormed = true) ∧
  (∀ w : OpWord, (∃ why, decode w = .invalid why) ↔
    7 ≤ (w >>> 28).toNat ∨ (w >>> 16) &&& 0xFFF#32 ≠ 0#32 ∨ (w >>> 28 ≠ 1#32 ∧ w &&& 0xFFFF#32 ≠ 0#32)) ∧
  (∀ (w : OpWord) (why : DecodeError) (r : Run), decode w = .invalid why → (takePending r).stopped = none →
    (performScheduledWord w r).stopped = some (.refused (.invalidWord why)) ∧
    (performScheduledWord w r).state = (takePending r).state) ∧
  (∀ (w : OpWord) (why : DecodeError) (rest : List OpWord) (s : State), decode w = .invalid why → s.trace = w :: rest →
    step s = .refused (.invalidWord why))

/-- R82: the word of each operation, and the codes `0x7` to `0xF` reserved. -/
def Obligations.OperationWordsOfTheTable : Prop :=
  encode .reset = 0x00000000#32 ∧
  (∀ i < 65536, encode (.tgen i) = 0x10000000#32 + BitVec.ofNat 32 i) ∧
  encode .cfg = 0x20000000#32 ∧ encode .sei = 0x30000000#32 ∧ encode .idle = 0x40000000#32 ∧
  encode .tick = 0x50000000#32 ∧ encode .ovf = 0x60000000#32 ∧
  ∀ w : OpWord, 7 ≤ (w >>> 28).toNat → decode w = .invalid .reservedCode

/-- Words of spec/95_test_vectors.md section 2.6 decode as listed there. -/
def Obligations.ListedWordsDecodeAsListed : Prop :=
  decode 0x00000000#32 = .op .reset ∧ decode 0x10000063#32 = .op (.tgen 99) ∧
  decode 0x1000FFFF#32 = .op (.tgen 65535) ∧ decode 0x20000000#32 = .op .cfg ∧ decode 0x30000000#32 = .op .sei ∧
  decode 0x40000000#32 = .op .idle ∧ decode 0x50000000#32 = .op .tick ∧ decode 0x60000000#32 = .op .ovf ∧
  decode 0x70000000#32 = .invalid .reservedCode ∧ decode 0x20000001#32 = .invalid .indexNotZero ∧
  decode 0x10010000#32 = .invalid .zeroFieldNotZero ∧ decode 0x5000000A#32 = .invalid .indexNotZero

/-- R84, R68, R85: the twelve registers' numbers, none above 11, their widths, what reading each gives (the named bits of
an 8-bit register, the buffer of a compare register), and that a value in its width reads in its width. -/
def Obligations.RegisterNumbersAndWidths : Prop :=
  (regNumber .mode = 0 ∧ regNumber .presc = 1 ∧ regNumber .top = 2 ∧ regNumber .chen = 3 ∧ regNumber .cmpa = 4 ∧
    regNumber .cmpb = 5 ∧ regNumber .cnt = 6 ∧ regNumber .ien = 7 ∧ regNumber .ifr = 8 ∧ regNumber .ddr = 9 ∧
    regNumber .gie = 10 ∧ regNumber .tmask = 11) ∧
  (∀ r : RegName, regOfNumber (regNumber r) = some r) ∧ (∀ n, 12 ≤ n → regOfNumber n = none) ∧
  (∀ (p : Params) (r : RegName),
    regWidth p r = if r = .top ∨ r = .cmpa ∨ r = .cmpb ∨ r = .cnt then p.cw else 8) ∧
  (∀ s : State,
    (readReg s .top = s.top ∧ readReg s .cmpa = s.cmpaBuf ∧ readReg s .cmpb = s.cmpbBuf ∧ readReg s .cnt = s.cnt) ∧
    (readReg s .mode = s.mode.toNat % 4 ∧ readReg s .presc = s.presc.toNat % 8 ∧ readReg s .chen = s.chen.toNat % 4 ∧
      readReg s .ien = s.ien.toNat % 2 ∧ readReg s .ifr = s.ifr.toNat % 2 ∧ readReg s .ddr = s.ddr.toNat % 4 ∧
      readReg s .gie = (if s.gie = true then 1 else 0) ∧ readReg s .tmask = s.tmask.toNat % 4)) ∧
  ∀ (s : State) (r : RegName), WidthOk s → readReg s r < 2 ^ regWidth s.params r

/-! ### The step -/

/-- R80, R88: with a word at the head of the trace that decodes to `i`, the step is `exec i` on the state without that
word; nothing else happens around it. So whichever operation's word is placed next, the step is that operation. The trace is
the model's form of the operation words, notes/assumptions/2.md. -/
def Obligations.StepRunsTheDecodedWord : Prop :=
  (∀ (s : State) (w : OpWord) (rest : List OpWord) (i : Instr),
    s.trace = w :: rest → decode w = .op i → step s = exec i { s with trace := rest }) ∧
  ∀ (s : State) (i : Instr), i.wellFormed = true → step (placeWord (encode i) s) = exec i s

/-- R16, R176: with no word left the block goes on, from every state of a well-formed block, by an operation that is
enabled. Which one is the free value of notes/assumptions/3.md, the model's choice of form; the statement holds for each. -/
def Obligations.BlockGoesOnByAnEnabledOperation : Prop :=
  ∀ s : State, s.trace = [] → s.params.wellFormed = true →
    ∃ (i : Instr) (t : State), exec i { s with fresh := s.fresh + 1 } = .next t ∧ step s = .next t ∧
      (ovfEnabled s = true → i = .ovf ∨ i = .reset)

/-- R175, R176: which operation is enabled, operation by operation. -/
def Obligations.EnabledExactlyAsDispatchSays : Prop :=
  ∀ s : State, s.params.wellFormed = true →
    (ovfEnabled s = true ↔ s.fault = none ∧ s.ifrOvf = true ∧ s.ienOvf = true ∧ s.gie = true) ∧
    (∃ t, exec .reset s = .next t) ∧
    ((∃ t, exec .ovf s = .next t) ↔ ovfEnabled s = true) ∧
    (∀ i, (∃ t, exec (.tgen i) s = .next t) ↔
      s.fault = none ∧ ovfEnabled s = false ∧ s.fgpc = i ∧ i < s.params.h) ∧
    ((∃ t, exec .cfg s = .next t) ↔ s.fault = none ∧ ovfEnabled s = false ∧ s.fgpc = s.params.h) ∧
    ((∃ t, exec .sei s = .next t) ↔ s.fault = none ∧ ovfEnabled s = false ∧ s.fgpc = s.params.h + 1) ∧
    ((∃ t, exec .idle s = .next t) ↔ s.fault = none ∧ ovfEnabled s = false ∧ s.fgpc = s.params.h + 2) ∧
    ((∃ t, exec .tick s = .next t) ↔
      s.fault = none ∧ ovfEnabled s = false ∧ (s.wgm = 0 ∨ s.cs = 0 ∨ (s.wgm = 1 ∧ s.cs = 1)))

/-- R171 (b), R176: while an overflow is to be taken, every operation but `OVF` and `RESET` is refused as not enabled, in
every state of a well-formed block. -/
def Obligations.PendingOverflowGoesFirst : Prop :=
  ∀ (s : State) (i : Instr), s.params.wellFormed = true → ovfEnabled s = true → i ≠ .ovf → i ≠ .reset →
    exec i s = .refused (.notEnabled i.mnemonic)

/-- R11: parameters are well formed when clauses (a) to (d) hold (of positive frequencies and of a table that R12 and R62
allow), and parameters that break one give the block no behaviour at all. -/
def Obligations.IllFormedParametersGiveNoBehaviour : Prop :=
  (∀ p : Params, 0 < p.fClk → 0 < p.fOut → p.table.length = p.n / 2 → (∀ v ∈ p.table, v < 2 ^ p.cw) →
    (p.wellFormed = true ↔
      (p.n % 2 = 0 ∧ 4 ≤ p.n) ∧ p.fOut * p.n ∣ p.fClk ∧
      (1 ≤ p.fClk / (p.fOut * p.n) ∧ p.fClk / (p.fOut * p.n) ≤ 2 ^ p.cw - 1) ∧ p.n / 2 ≤ 2 ^ p.curw - 3)) ∧
  ∀ s : State,
    ¬((s.params.n % 2 = 0 ∧ 4 ≤ s.params.n) ∧ s.params.fOut * s.params.n ∣ s.params.fClk ∧
      (1 ≤ s.params.fClk / (s.params.fOut * s.params.n) ∧
        s.params.fClk / (s.params.fOut * s.params.n) ≤ 2 ^ s.params.cw - 1) ∧
      s.params.n / 2 ≤ 2 ^ s.params.curw - 3) →
    (∀ i : Instr, exec i s = .refused .illFormedParameters) ∧ ∀ t, step s ≠ .next t

/-- R170, R171 (c): no step of the machine ends outside a next state or a refusal; a fault of R172 is a next state that
records it. That a fault is a next state is the model's reading, notes/assumptions/4.md. -/
def Obligations.NoStepStopsWithAFault : Prop :=
  ∀ (s : State) (f : Fault), step s ≠ .fault f ∧ ∀ i : Instr, exec i s ≠ .fault f

/-! ### Reset -/

/-- R45: the reset state. -/
def Obligations.ResetStateValues : Prop :=
  State.reset.fgpc = 0 ∧ (∀ i, State.reset.table.read i = none) ∧ State.reset.cursor = 0 ∧
  State.reset.pending = false ∧ State.reset.tmask = 0 ∧ State.reset.mode = 0 ∧ State.reset.presc = 0 ∧
  State.reset.top = 0 ∧ State.reset.chen = 0 ∧ State.reset.cmpaBuf = 0 ∧ State.reset.cmpbBuf = 0 ∧
  State.reset.cmpaAct = 0 ∧ State.reset.cmpbAct = 0 ∧ State.reset.cnt = 0 ∧ State.reset.dir = .up ∧
  State.reset.ien = 0 ∧ State.reset.ifr = 0 ∧ State.reset.gie = false ∧ State.reset.ddr = 0 ∧
  State.reset.fault = none ∧ State.reset.k = 0

/-- R190: `RESET` from any state of a well-formed block, faulted ones included: the word is 0; every piece of state that
the spec gives the machine takes its reset value, the parameters stay as they were, both pins are `Z`. Of the model's own
`trace` and `fresh` it says nothing. -/
def Obligations.ResetFromAnyState : Prop :=
  encode .reset = 0x00000000#32 ∧
  ∀ s : State, s.params.wellFormed = true →
    ∃ t, exec .reset s = .next t ∧
      { t with trace := [], fresh := 0 } = { State.reset with params := s.params } ∧
      (∀ i, t.table.read i = none) ∧ t.fault = none ∧ pins t = (.z, .z)

/-! ### The foreground -/

/-- R105: `TGEN i` is enabled exactly when no fault is recorded and `FGPC = i < H` (an overflow to be taken first is R176's
case, here excluded); it stores `TABLE(i)` at `i`, advances `FGPC`, and changes nothing else: no other entry, no other
register, no flag. -/
def Obligations.TgenStoresItsEntry : Prop :=
  ∀ (s : State) (i : Nat), s.params.wellFormed = true → ovfEnabled s = false →
    (s.fault = none ∧ s.fgpc = i ∧ i < s.params.h →
      ∃ (t : State) (v : Nat), exec (.tgen i) s = .next t ∧ s.params.table[i]? = some v ∧ v < 2 ^ s.params.cw ∧
        t.table.read i = some v ∧ (∀ j, j ≠ i → t.table.read j = s.table.read j) ∧
        t = { s with table := t.table, fgpc := s.fgpc + 1 }) ∧
    (¬(s.fault = none ∧ s.fgpc = i ∧ i < s.params.h) → exec (.tgen i) s = .refused (.notEnabled "TGEN"))

/-- R117: `CFG` is enabled exactly when no fault is recorded and `FGPC = H` (R176's case excluded); it writes what the
contract lists, in one step, and nothing else. -/
def Obligations.CfgWritesTheContract : Prop :=
  ∀ s : State, s.params.wellFormed = true → ovfEnabled s = false →
    (s.fault = none ∧ s.fgpc = s.params.h →
      ∃ t, exec .cfg s = .next t ∧ t.wgm = 1 ∧ t.top = s.params.m ∧ t.conA = true ∧ t.conB = false ∧
        t.tmaskVal = 0b11 ∧ t.cs = 1 ∧ t.ienOvf = true ∧ t.ddrA = true ∧ t.ddrB = true ∧ t.fgpc = s.fgpc + 1 ∧
        (readReg t .mode = 1 ∧ readReg t .chen = 1 ∧ readReg t .presc = 1 ∧ readReg t .ien = 1 ∧ readReg t .ddr = 3) ∧
        t = { s with
          mode := t.mode, top := t.top, chen := t.chen, tmask := t.tmask, presc := t.presc, ien := t.ien, ddr := t.ddr
          fgpc := t.fgpc }) ∧
    (¬(s.fault = none ∧ s.fgpc = s.params.h) → exec .cfg s = .refused (.notEnabled "CFG"))

/-- R119: `SEI` is enabled exactly when no fault is recorded and `FGPC = H + 1` (R176's case excluded); it sets `GIE`, and
a request already pending is then the next thing taken. -/
def Obligations.SeiUnmasks : Prop :=
  ∀ s : State, s.params.wellFormed = true → ovfEnabled s = false →
    (s.fault = none ∧ s.fgpc = s.params.h + 1 →
      exec .sei s = .next { s with gie := true, fgpc := s.fgpc + 1 } ∧
      ∀ t, exec .sei s = .next t → s.ifrOvf = true → s.ienOvf = true → ovfEnabled t = true) ∧
    (¬(s.fault = none ∧ s.fgpc = s.params.h + 1) → exec .sei s = .refused (.notEnabled "SEI"))

/-- R120: `IDLE` is enabled exactly when no fault is recorded, `FGPC = H + 2` and `OVF` is not enabled; it changes
nothing. -/
def Obligations.IdleChangesNothing : Prop :=
  ∀ s : State, s.params.wellFormed = true →
    (s.fault = none ∧ s.fgpc = s.params.h + 2 ∧ ovfEnabled s = false → exec .idle s = .next s) ∧
    (¬(s.fault = none ∧ s.fgpc = s.params.h + 2 ∧ ovfEnabled s = false) → exec .idle s = .refused (.notEnabled "IDLE"))

/-- R120: a trace that runs through, with its `IDLE`s removed, runs through the same: same last state, same pin and
handler traces. -/
def Obligations.IdlesRemovedLeaveTheSameRun : Prop :=
  ∀ (ops : List Instr) (s : State), (runTrace ops s).stopped = none →
    (runTrace (ops.filter (fun i => i != .idle)) s).stopped = none ∧
    (runTrace (ops.filter (fun i => i != .idle)) s).state = (runTrace ops s).state ∧
    (runTrace (ops.filter (fun i => i != .idle)) s).seen = (runTrace ops s).seen

/-- R118: after `CFG`, in a block that came from reset: both pins driven and low, the first tick moves `CNT` from 0 to 1
and raises no overflow. -/
def Obligations.CfgStartsTheCounter : Prop :=
  ∀ s t : State, BlockInv s → exec .cfg s = .next t →
    pins s = (.z, .z) ∧ pins t = (.low, .low) ∧ t.cnt = 0 ∧ t.ifrOvf = false ∧
    ∃ u, exec .tick t = .next u ∧ u.cnt = 1 ∧ u.ifrOvf = false ∧ pins u = (.low, .low)

/-- R106, R71: when `SEI` is performed every table entry has been written and the block is configured; `TGEN` and `CFG`
are then never enabled again, until `RESET`. -/
def Obligations.SeiAfterTableAndConfiguration : Prop :=
  ∀ s t : State, BlockInv s → exec .sei s = .next t →
    (∀ i < s.params.h, t.table.read i = some (s.params.entry i)) ∧ Configured t ∧
    ∀ (u : State), BlockInv u → u.gie = true → u.params = s.params →
      (∀ i v, exec (.tgen i) u ≠ .next v) ∧ ∀ v, exec .cfg u ≠ .next v

/-- R193: what holds just before `SEI`. -/
def Obligations.ReadyBeforeUnmasking : Prop :=
  ∀ s : State, BlockInv s → HandlerForm s → s.fgpc = s.params.h + 1 →
    (∀ i < s.params.h, s.table.read i ≠ none) ∧ s.wgm = 1 ∧ s.top = s.params.m ∧ s.cs = 1 ∧
    s.chen = 0x01 ∧ s.tmask = 0x03 ∧ s.ienOvf = true ∧ s.ddr = 0x03 ∧ s.cursor = 0 ∧ s.pending = false ∧
    s.cmpaBuf = 0 ∧ s.cmpbBuf = 0 ∧ s.cmpaAct = 0 ∧ s.cmpbAct = 0

/-! ### The counter -/

/-- R131, R132, R135, R136: what `TICK` does in every state where the count stays in its width (R133 says that is always).
The corner outside it is `CountOutsideTheWidthIsFree`. -/
def Obligations.TickCountsFlagsAndLatches : Prop :=
  ∀ s : State, s.params.wellFormed = true → s.fault = none → ovfEnabled s = false →
    (s.wgm = 0 ∨ s.cs = 0 → exec .tick s = .next s) ∧
    (s.wgm ≠ 0 → s.cs ≠ 0 → (s.wgm ≠ 1 ∨ s.cs ≠ 1) → exec .tick s = .refused .timerSettingReserved) ∧
    (s.wgm = 1 → s.cs = 1 → s.dir = .up → s.cnt + 1 < 2 ^ s.params.cw →
      exec .tick s = .next { s with
        cnt := s.cnt + 1
        dir := if s.cnt + 1 = s.top then .down else .up
        cmpaAct := if s.cnt + 1 = s.top ∧ s.params.latch ≠ .bottom then s.cmpaBuf else s.cmpaAct
        cmpbAct := if s.cnt + 1 = s.top ∧ s.params.latch ≠ .bottom then s.cmpbBuf else s.cmpbAct }) ∧
    (s.wgm = 1 → s.cs = 1 → s.dir = .down → 0 < s.cnt →
      exec .tick s = .next { s with
        cnt := s.cnt - 1
        dir := if s.cnt = 1 then .up else .down
        ifr := if s.cnt = 1 then 1 else s.ifr
        cmpaAct := if s.cnt = 1 ∧ s.params.latch ≠ .top then s.cmpaBuf else s.cmpaAct
        cmpbAct := if s.cnt = 1 ∧ s.params.latch ≠ .top then s.cmpbBuf else s.cmpbAct })

/-- The model's choice, notes/assumptions/8.md: where a count would leave its width, which R133 says never happens, `TICK`
still completes; `CNT` takes some value of its width that no rule states, and the rest follows from that value as R131
says. -/
def Obligations.CountOutsideTheWidthIsFree : Prop :=
  ∀ s : State, s.params.wellFormed = true → s.fault = none → ovfEnabled s = false → s.wgm = 1 → s.cs = 1 →
    (s.dir = .up → ¬s.cnt + 1 < 2 ^ s.params.cw →
      ∃ v < 2 ^ s.params.cw, exec .tick s = .next { s with
        cnt := v
        fresh := s.fresh + 1
        dir := if v = s.top then .down else .up
        cmpaAct := if v = s.top ∧ s.params.latch ≠ .bottom then s.cmpaBuf else s.cmpaAct
        cmpbAct := if v = s.top ∧ s.params.latch ≠ .bottom then s.cmpbBuf else s.cmpbAct }) ∧
    (s.dir = .down → s.cnt = 0 →
      ∃ v < 2 ^ s.params.cw, exec .tick s = .next { s with
        cnt := v
        fresh := s.fresh + 1
        dir := if v = 0 then .up else .down
        ifr := if v = 0 then 1 else s.ifr
        cmpaAct := if v = 0 ∧ s.params.latch ≠ .top then s.cmpaBuf else s.cmpaAct
        cmpbAct := if v = 0 ∧ s.params.latch ≠ .top then s.cmpbBuf else s.cmpbAct })

/-- R133: the counter sequence from the state `CFG` leaves, whatever else but `RESET` happens between the ticks: after `j`
ticks `CNT` is `1, 2, .., M, M-1, .., 0` and again, of period `2M`; `CNT` never leaves `0 .. TOP`; and the invariants of the
direction. -/
def Obligations.CounterSequence : Prop :=
  ∀ (s : State) (ops : List Instr) (r : Run) (j : Nat), BlockInv s → s.fgpc = s.params.h + 1 → s.cnt = 0 → s.dir = .up →
    Instr.reset ∉ ops → r = runTrace ops s → j = r.performed.count .tick % (2 * s.params.m) →
    r.state.cnt = (if j ≤ s.params.m then j else 2 * s.params.m - j) ∧
    r.state.dir = (if j < s.params.m then .up else .down) ∧
    r.state.top = s.params.m ∧ r.state.cnt ≤ r.state.top ∧ r.state.cnt < 2 ^ s.params.cw ∧
    (r.state.dir = .up → r.state.cnt < r.state.top) ∧ (r.state.dir = .down → 1 ≤ r.state.cnt)

/-- R133: from `CFG` on, a tick moves the counter one place on in its period of `2M` places, and no other operation but
`RESET` moves it. -/
def Obligations.TickMovesThePhase : Prop :=
  ∀ (s t : State) (i : Instr), BlockInv s → s.params.h < s.fgpc → exec i s = .next t → i ≠ .reset →
    phase s < 2 * s.params.m ∧
    phase t = if i = .tick then (phase s + 1) % (2 * s.params.m) else phase s

/-- R142: with `LATCH_POINT = {BOTTOM}` a connected, driven channel whose active value is `C <= M` is high on `2C - 1` of the
`2M` states of a period, and on none when `C = 0` (here `2 * 0 - 1 = 0`). The period is the one that opens at `s`, its
overflow taken already or masked, so that all its `2M - 1` ticks inside happen before the next overflow. -/
def Obligations.PulseWidthOfAPeriod : Prop :=
  ∀ (s : State) (x : Channel), s.params.wellFormed = true → s.fault = none → ovfEnabled s = false → s.wgm = 1 → s.cs = 1 →
    s.params.latch = .bottom → s.top = s.params.m → s.cnt = 0 → s.dir = .up →
    connected s x = true → driven s x = true → activeCompare s x ≤ s.top →
    (∀ j < 2 * s.top, ∃ t, runTicks j s = some t ∧ activeCompare t x = activeCompare s x) ∧
    (List.range (2 * s.top)).countP (fun j => (runTicks j s).any (fun t => decide (pin t x = .high))) =
      2 * activeCompare s x - 1

/-! ### The handler -/

/-- R151 to R156, R178: an invocation of the handler in each of its rows, its load succeeding: the whole next state. -/
def Obligations.HandlerRowsAndLoad : Prop :=
  ∀ (s : State) (v : Nat), s.params.wellFormed = true → ovfEnabled s = true →
    (s.pending = true → s.cursor < s.params.h → s.table.read s.cursor = some v →
      exec .ovf s = .next { s with
        ifr := 0, chen := s.chenVal ^^^ s.tmaskVal, pending := false
        cmpaBuf := v, cmpbBuf := v, cursor := s.cursor + 1, k := s.k + 1 }) ∧
    (s.pending = false → s.params.h ≤ s.cursor → s.table.read 0 = some v →
      exec .ovf s = .next { s with
        ifr := 0, pending := true, cmpaBuf := v, cmpbBuf := v, cursor := 1, k := s.k + 1 }) ∧
    (s.pending = false → s.cursor < s.params.h → s.table.read s.cursor = some v →
      exec .ovf s = .next { s with
        ifr := 0, cmpaBuf := v, cmpbBuf := v, cursor := s.cursor + 1, k := s.k + 1 })

/-- R61, R171 (c), R172: an invocation whose load faults records the fault and changes nothing else. -/
def Obligations.HandlerFaultsAreRecorded : Prop :=
  ∀ s : State, s.params.wellFormed = true → ovfEnabled s = true →
    (s.pending = true → s.params.h ≤ s.cursor → exec .ovf s = .next { s with fault := some .indexOutOfRange }) ∧
    (s.pending = true → s.cursor < s.params.h → s.table.read s.cursor = none →
      exec .ovf s = .next { s with fault := some .unwrittenTableRead }) ∧
    (s.pending = false → s.params.h ≤ s.cursor → s.table.read 0 = none →
      exec .ovf s = .next { s with fault := some .unwrittenTableRead }) ∧
    (s.pending = false → s.cursor < s.params.h → s.table.read s.cursor = none →
      exec .ovf s = .next { s with fault := some .unwrittenTableRead })

/-- R39: `FAULT` is none after reset; only a faulting step sets it; while it is set no operation but `RESET` is enabled, and
`RESET` clears it. -/
def Obligations.FaultIsStickyUntilReset : Prop :=
  State.reset.fault = none ∧
  (∀ (s t : State) (i : Instr), exec i s = .next t → s.fault = none → t.fault ≠ none → i = .ovf) ∧
  ∀ (s : State) (i : Instr), s.params.wellFormed = true → s.fault ≠ none →
    (i ≠ .reset → exec i s = .refused (.notEnabled i.mnemonic)) ∧ ∃ t, exec .reset s = .next t ∧ t.fault = none

/-- R157: no invocation both flips and wraps: a change of the connected channels happens only in an invocation that finds
the switch pending, and that one leaves it not pending and only increments the cursor. -/
def Obligations.FlipAndWrapNeverTogether : Prop :=
  ∀ s t : State, exec .ovf s = .next t → t.fault = none →
    (t.chenVal ≠ s.chenVal → s.pending = true ∧ t.pending = false ∧ t.cursor = s.cursor + 1) ∧
    (t.pending = true → s.pending = false ∧ t.chenVal = s.chenVal ∧ s.params.h ≤ s.cursor ∧ t.cursor = 1)

/-- R158: in a block that came from reset the handler never faults: the index it reads is the cursor in row 3, 0 in row 2
and 1 in row 1, always below `H`, and its entry is written. -/
def Obligations.TableNeverIndexedOutOfRange : Prop :=
  ∀ s : State, BlockInv s → ovfEnabled s = true →
    (handlerRow s = .none → (afterRow s).cursor = s.cursor) ∧ (handlerRow s = .wrap → (afterRow s).cursor = 0) ∧
    (handlerRow s = .flip → (afterRow s).cursor = 1) ∧
    (afterRow s).cursor < s.params.h ∧ s.table.read (afterRow s).cursor ≠ none ∧
    ∃ t, exec .ovf s = .next t ∧ t.fault = none

/-! ### Whole-machine rules -/

/-- R184, R9, R41: which operation writes what; whatever is not named here stays. The parameters are written by nothing. -/
def Obligations.OwnershipOfEveryPiece : Prop :=
  ∀ (s t : State) (i : Instr), exec i s = .next t → i ≠ .reset →
    ((∀ j, i ≠ .tgen j) → t.table = s.table) ∧
    (i ≠ .cfg → t.mode = s.mode ∧ t.top = s.top ∧ t.presc = s.presc ∧ t.ien = s.ien ∧ t.ddr = s.ddr ∧
      t.tmask = s.tmask) ∧
    (i ≠ .cfg → i ≠ .ovf → t.chen = s.chen) ∧
    (i ≠ .sei → t.gie = s.gie) ∧
    (i ≠ .ovf → t.cursor = s.cursor ∧ t.pending = s.pending ∧ t.cmpaBuf = s.cmpaBuf ∧ t.cmpbBuf = s.cmpbBuf ∧
      t.k = s.k ∧ t.fault = s.fault) ∧
    (i ≠ .tick → t.cnt = s.cnt ∧ t.dir = s.dir ∧ t.cmpaAct = s.cmpaAct ∧ t.cmpbAct = s.cmpbAct) ∧
    (i ≠ .tick → i ≠ .ovf → t.ifr = s.ifr) ∧
    (i = .tick ∨ i = .ovf ∨ i = .idle → t.fgpc = s.fgpc) ∧
    t.params = s.params ∧
    (BlockInv s → ∀ j, i = .tgen j → s.gie = false)

/-- R62, R74, R201: once interrupts are unmasked the table is never written, by no operation but `RESET`. -/
def Obligations.TableFrozenDuringPlayback : Prop :=
  ∀ (s t : State) (i : Instr), BlockInv s → s.gie = true → exec i s = .next t → i ≠ .reset → t.table = s.table

/-- R135: a tick that arrives at BOTTOM sets the overflow flag, and no other tick and no other event does. -/
def Obligations.OnlyBottomSetsTheOverflowFlag : Prop :=
  (∀ s t : State, exec .tick s = .next t → s.wgm = 1 → s.cs = 1 → s.dir = .down → t.cnt = 0 → t.ifrOvf = true) ∧
  ∀ (s t : State) (i : Instr), exec i s = .next t → s.ifrOvf = false → t.ifrOvf = true →
    i = .tick ∧ s.wgm = 1 ∧ s.cs = 1 ∧ s.dir = .down ∧ t.cnt = 0

/-- R141: in a block that came from reset at most one pin is high, and from `CFG` on `CHEN` is `0x01` or `0x02`, so exactly
one channel is connected; the handler exchanges the two exactly in its flip. -/
def Obligations.OneActiveChannel : Prop :=
  ∀ s : State, BlockInv s →
    ¬(pin s .a = .high ∧ pin s .b = .high) ∧
    (s.params.h < s.fgpc →
      (s.chen = 0x01 ∧ activeChannel s = some .a ∧ connected s .a = true ∧ connected s .b = false) ∨
      (s.chen = 0x02 ∧ activeChannel s = some .b ∧ connected s .a = false ∧ connected s .b = true)) ∧
    ∀ t, exec .ovf s = .next t →
      activeChannel t = if s.pending = true then (activeChannel s).map Channel.other else activeChannel s

/-! ### Invariants -/

/-- Every step keeps every value in its width and the reserved bits 0 (10_state.md; R85), from every state, reachable or
not. -/
def Obligations.StepKeepsWidths : Prop :=
  ∀ s t : State, WidthOk s → step s = .next t → WidthOk t

/-- Every step keeps the table's canonical form, from every state. -/
def Obligations.StepKeepsTheTableCanonical : Prop :=
  ∀ s t : State, s.table.wf → step s = .next t → t.table.wf

/-- The block's invariants hold at the reset state, and at the start of a block with any well-formed parameters. -/
def Obligations.ReachableFormsAtReset : Prop :=
  (BlockInv State.reset ∧ WidthOk State.reset) ∧
  ∀ p : Params, p.wellFormed = true →
    BlockInv (startState p) ∧ HandlerForm (startState p) ∧ DeferralForm (startState p) ∧ ActiveForm (startState p) ∧
    WidthOk (startState p)

/-- R46: the invariant of the reachable states is kept by every step. -/
def Obligations.StepKeepsBlockInvariant : Prop :=
  ∀ s t : State, BlockInv s → step s = .next t → BlockInv t

/-- R46: the invariant holds in every state that a run of any operations reaches from reset, with any well-formed
parameters. -/
def Obligations.EveryReachableStateIsGood : Prop :=
  ∀ (p : Params) (ops : List Instr), p.wellFormed = true → BlockInv (runTrace ops (startState p)).state

/-- R159, R160: the closed forms of the handler are kept by every step. -/
def Obligations.StepKeepsHandlerClosedForm : Prop :=
  ∀ s t : State, BlockInv s → HandlerForm s → step s = .next t → HandlerForm t

/-- R136, R143: what the active registers hold with `LATCH_POINT = {BOTTOM}` is kept by every step. -/
def Obligations.StepKeepsActiveClosedForm : Prop :=
  ∀ s t : State, BlockInv s → HandlerForm s → DeferralForm s → ActiveForm s → step s = .next t → ActiveForm t

/-- R197: the deferral's invariant, for every `LATCH_POINT`, is kept by every step. -/
def Obligations.StepKeepsDeferral : Prop :=
  ∀ s t : State, BlockInv s → HandlerForm s → DeferralForm s → step s = .next t → DeferralForm t

/-- R198: glitch freedom. At every flip both waveforms are 0, and both pins are low before it and after it. -/
def Obligations.FlipIsFreeOfGlitches : Prop :=
  ∀ s : State, BlockInv s → HandlerForm s → DeferralForm s → s.params.entry 0 = 0 →
    ovfEnabled s = true → s.pending = true →
    (waveform s .a = false ∧ waveform s .b = false) ∧ pins s = (.low, .low) ∧
    ∃ t, exec .ovf s = .next t ∧ pins t = (.low, .low) ∧ activeChannel t = (activeChannel s).map Channel.other

/-- R159, R160, R161: the record of the invocation about to run is the closed form's. -/
def Obligations.InvocationRecordIsClosedForm : Prop :=
  ∀ s : State, BlockInv s → HandlerForm s → ovfEnabled s = true → handlerRecord s = some (recordOf s.params s.k)

/-- R161, R191: from reset the handler trace of every run without `RESET` is the closed form's list, a function of `H` and
the table alone: it does not depend on the trace's ticks, on `M` or on `LATCH_POINT`. -/
def Obligations.HandlerTraceIsAFunctionOfTheTable : Prop :=
  ∀ (p : Params) (ops : List Instr), p.wellFormed = true → Instr.reset ∉ ops →
    handlerTrace (runTrace ops (startState p)).seen =
      (List.range (runTrace ops (startState p)).state.k).map (recordOf p)

/-- R160, R162, of the closed form: the flips are the invocations `m * H + 1` and the wraps `m * H`, `m >= 1`; each flip is
one invocation after a wrap; and after invocation `k` there have been `(k - 1) / H` flips. -/
def Obligations.SwitchesAreHInvocationsApart : Prop :=
  ∀ h k : Nat, 2 ≤ h →
    (rowOf h k = .flip ↔ ∃ m, 1 ≤ m ∧ k = m * h + 1) ∧ (rowOf h k = .wrap ↔ ∃ m, 1 ≤ m ∧ k = m * h) ∧
    (rowOf h (k + 1) = .flip ↔ rowOf h k = .wrap) ∧
    (List.range (k + 1)).countP (fun j => decide (rowOf h j = .flip)) = (k - 1) / h

/-- R159, R160, of the machine: invocation `k` wraps, flips and reads as the closed form says, and leaves the closed form's
cursor, flag and active channel. -/
def Obligations.InvocationFollowsTheClosedForm : Prop :=
  ∀ s : State, BlockInv s → HandlerForm s → ovfEnabled s = true →
    (handlerRow s = .wrap ↔ ∃ m, 1 ≤ m ∧ s.k = m * s.params.h) ∧
    (handlerRow s = .flip ↔ ∃ m, 1 ≤ m ∧ s.k = m * s.params.h + 1) ∧
    ∃ t, exec .ovf s = .next t ∧ t.k = s.k + 1 ∧ (afterRow s).cursor = s.k % s.params.h ∧
      s.table.read (s.k % s.params.h) = some t.cmpaBuf ∧ t.cmpbBuf = t.cmpaBuf ∧
      t.cursor = s.k % s.params.h + 1 ∧ (t.pending = true ↔ s.params.h ≤ s.k ∧ s.k % s.params.h = 0) ∧
      activeChannel t = if (s.k - 1) / s.params.h % 2 = 0 then some .a else some .b

/-! ### Schedules -/

/-- R88, the run of a schedule: a pending overflow is taken by performing `OVF`, and nothing happens where none is pending; a
scheduled operation is performed after that, and one that is not enabled stops the run and leaves the state, after which
nothing happens; a run takes what is pending before each scheduled operation and after the last, so that `OVF` is never left
enabled. -/
def Obligations.ScheduleTakesPendingOverflows : Prop :=
  (∀ r : Run, r.state.params.wellFormed = true → r.stopped = none →
    (ovfEnabled r.state = false → takePending r = r) ∧
    (ovfEnabled r.state = true →
      exec .ovf r.state = .next (takePending r).state ∧ (takePending r).stopped = none ∧
      (takePending r).performed = r.performed ++ [.ovf] ∧
      (takePending r).seen = r.seen ++ observe .ovf r.state (takePending r).state) ∧
    ovfEnabled (takePending r).state = false ∧
    ∀ i : Instr,
      (∀ t, exec i (takePending r).state = .next t →
        performScheduled i r =
          { state := t, performed := (takePending r).performed ++ [i],
            seen := (takePending r).seen ++ observe i (takePending r).state t, stopped := none }) ∧
      (∀ x, exec i (takePending r).state = .refused x →
        performScheduled i r = { takePending r with stopped := some (.refused x) }) ∧
      (i = .ovf → (performScheduled i r).stopped = some (.refused (.notEnabled "OVF")))) ∧
  (∀ (r : Run) (i : Instr) (x : Stop), r.stopped = some x → performScheduled i r = r ∧ takePending r = r) ∧
  (∀ s : State, runSchedule [] s = takePending (Run.start s)) ∧
  (∀ (ops : List Instr) (i : Instr) (s : State),
    runSchedule (ops ++ [i]) s = takePending (performScheduled i (runSchedule ops s))) ∧
  ∀ (ops : List Instr) (s : State), s.params.wellFormed = true → ovfEnabled (runSchedule ops s).state = false

/-! ### The table -/

/-- R101, R102: the computed table is the exact one: `floor (M * sin (2 pi i / N) + 1/2)`, which is in `[0, M]` and is the
unique integer `t` with `t - 1/2 <= M * sin (2 pi i / N) < t + 1/2`, so a tie goes upward; and it is the default of `TABLE`. -/
def Obligations.ComputedTableIsExact : Prop :=
  (∀ n m i : Nat, n % 2 = 0 → 4 ≤ n → 1 ≤ m → 2 * i < n →
    (texact n m i : ℤ) = ⌊(m : ℝ) * Real.sin (2 * Real.pi * (i : ℝ) / (n : ℝ)) + 1 / 2⌋ ∧ texact n m i ≤ m ∧
    IsTexact n m i (texact n m i) ∧
    ∀ t : ℤ, (t : ℝ) - 1 / 2 ≤ (m : ℝ) * Real.sin (2 * Real.pi * (i : ℝ) / (n : ℝ)) →
      (m : ℝ) * Real.sin (2 * Real.pi * (i : ℝ) / (n : ℝ)) < (t : ℝ) + 1 / 2 → t = texact n m i) ∧
  (texact 12 5 1 = 3 ∧ (5 : ℝ) * Real.sin (2 * Real.pi * 1 / 12) = 5 / 2) ∧
  ∀ fClk fOut n i : Nat, i < n / 2 →
    (defaultParams fClk fOut n).table[i]? = some (texact n (fClk / (fOut * n)) i)

/-- The reference table of spec/95_test_vectors.md section 2.1 is exact for `N = 200`, `M = 1600`. -/
def Obligations.ReferenceTableIsExact : Prop :=
  ∀ i < 100, ∃ v, Config.reference.table[i]? = some v ∧ IsTexact 200 1600 i v

/-- R103, R104: the exact table is conforming. -/
def Obligations.ExactTableConforms : Prop :=
  ∀ n m : Nat, n % 2 = 0 → 4 ≤ n → 1 ≤ m → Conforming n m (texact n m)

/-- R104: bounds, the first entry, symmetry, the rise up to `N/4` and the fall from there, where the largest entries are, the
last entry, and the error of at most one half. -/
def Obligations.ShapeOfTheExactTable : Prop :=
  ∀ n m : Nat, n % 2 = 0 → 4 ≤ n → 1 ≤ m →
    (∀ i < n / 2, 0 ≤ Real.sin (2 * Real.pi * (i : ℝ) / (n : ℝ)) ∧ Real.sin (2 * Real.pi * (i : ℝ) / (n : ℝ)) ≤ 1 ∧
      texact n m i ≤ m) ∧
    texact n m 0 = 0 ∧
    (∀ i, 1 ≤ i → i < n / 2 → texact n m (n / 2 - i) = texact n m i) ∧
    (∀ i j, i ≤ j → 4 * j ≤ n → texact n m i ≤ texact n m j) ∧
    (∀ i j, n ≤ 4 * i → i ≤ j → j < n / 2 → texact n m j ≤ texact n m i) ∧
    (n % 4 = 0 → texact n m (n / 4) = m ∧
      ∀ i < n / 2, Real.sin (2 * Real.pi * (i : ℝ) / (n : ℝ)) = 1 ↔ i = n / 4) ∧
    (n % 4 = 2 → texact n m ((n - 2) / 4) = texact n m ((n + 2) / 4) ∧
      ∀ i < n / 2, texact n m i ≤ texact n m ((n - 2) / 4)) ∧
    texact n m (n / 2 - 1) = texact n m 1 ∧
    (texact n m 1 : ℤ) = ⌊(m : ℝ) * Real.sin (2 * Real.pi / (n : ℝ)) + 1 / 2⌋ ∧
    ∀ i < n / 2, |(texact n m i : ℝ) - (m : ℝ) * Real.sin (2 * Real.pi * (i : ℝ) / (n : ℝ))| ≤ 1 / 2

/-- R103 on the candidates of spec/95_test_vectors.md section 2.1, `N = 8`, `M = 5`. -/
def Obligations.ListedTablesConformAsListed : Prop :=
  Conforming 8 5 (fun i => [0, 4, 5, 4].getD i 0) ∧ Conforming 8 5 (fun i => [0, 3, 5, 4].getD i 0) ∧
  Conforming 8 5 (fun i => [0, 3, 4, 3].getD i 0) ∧ Conforming 8 5 (fun i => [0, 4, 5, 3].getD i 0) ∧
  ¬Conforming 8 5 (fun i => [1, 4, 5, 4].getD i 0) ∧ ¬Conforming 8 5 (fun i => [0, 4, 6, 4].getD i 0) ∧
  ¬Conforming 8 5 (fun i => [0, 2, 5, 4].getD i 0)
end

