-- ==== Sys2Proof/Laws/Memory.lean ====
section
/-! SUPPORT. The laws of the Waveform Table (spec/20_memory.md R60 to R62): a read after a write, and the canonical form
that every memory operation keeps. -/

namespace Sys2Proof.Machine

/-- A read after a write: the value at the index written, every other entry as before. No form of the list is assumed. -/
theorem Memory.read_write (m : Memory) (i v j : Nat) :
    (m.write i v).read j = if j = i then some v else m.read j := by
  induction m with
  | nil => simp only [Memory.write, Memory.read]; split <;> split <;> simp_all
  | cons e rest ih =>
    obtain ⟨a, u⟩ := e
    simp only [Memory.write]
    split
    · simp only [Memory.read]
      grind
    · split
      · simp only [Memory.read]; grind
      · simp only [Memory.read, ih]; grind

/-- The entries of a written memory are the new one and old ones. -/
theorem Memory.mem_write {m : Memory} {i v : Nat} {e : Nat × Nat} (h : e ∈ m.write i v) : e = (i, v) ∨ e ∈ m := by
  induction m with
  | nil => simpa [Memory.write] using h
  | cons d rest ih =>
    obtain ⟨a, u⟩ := d
    simp only [Memory.write] at h
    split at h
    · simpa using h
    · split at h
      · rcases List.mem_cons.mp h with h | h
        · exact .inl h
        · exact .inr (List.mem_cons_of_mem _ h)
      · rcases List.mem_cons.mp h with h | h
        · exact .inr (by simp [h])
        · exact (ih h).imp_right (List.mem_cons_of_mem _)

/-- A write keeps the canonical form. -/
theorem Memory.wf_write {m : Memory} (h : m.wf) (i v : Nat) : (m.write i v).wf := by
  induction m with
  | nil => simp [Memory.write, Memory.wf]
  | cons d rest ih =>
    obtain ⟨a, u⟩ := d
    obtain ⟨hd, hr⟩ := List.pairwise_cons.mp h
    simp only [Memory.write]
    split
    next hlt =>
      refine List.pairwise_cons.mpr ⟨fun e he => ?_, h⟩
      rcases List.mem_cons.mp he with rfl | he
      · exact hlt
      · exact lt_trans hlt (hd e he)
    next hge =>
      split
      next heq =>
        subst heq
        exact List.pairwise_cons.mpr ⟨hd, hr⟩
      next hne =>
        refine List.pairwise_cons.mpr ⟨fun e he => ?_, ih hr⟩
        rcases Memory.mem_write he with rfl | he
        · show a < i
          omega
        · exact hd e he

/-- The empty memory, which the reset state holds, is in canonical form. -/
theorem Memory.wf_reset : State.reset.table.wf := List.Pairwise.nil

/-- Every entry of the reset state is unwritten (R45). -/
theorem Memory.read_reset (i : Nat) : State.reset.table.read i = none := rfl

end Sys2Proof.Machine
end

