-- ==== Sys2Proof/Laws/State.lean ====
section
/-! SUPPORT. One lemma per field per update of the state, each true by rfl, so that no proof unfolds a record update. -/

namespace Sys2Proof.Machine

section

variable (s : State)

@[simp] theorem setWgm_fgpc (v : BitVec 2) : (setWgm v s).fgpc = s.fgpc := rfl
@[simp] theorem setWgm_table (v : BitVec 2) : (setWgm v s).table = s.table := rfl
@[simp] theorem setWgm_cursor (v : BitVec 2) : (setWgm v s).cursor = s.cursor := rfl
@[simp] theorem setWgm_pending (v : BitVec 2) : (setWgm v s).pending = s.pending := rfl
@[simp] theorem setWgm_tmask (v : BitVec 2) : (setWgm v s).tmask = s.tmask := rfl
@[simp] theorem setWgm_mode (v : BitVec 2) : (setWgm v s).mode = v.setWidth 8 := rfl
@[simp] theorem setWgm_presc (v : BitVec 2) : (setWgm v s).presc = s.presc := rfl
@[simp] theorem setWgm_top (v : BitVec 2) : (setWgm v s).top = s.top := rfl
@[simp] theorem setWgm_chen (v : BitVec 2) : (setWgm v s).chen = s.chen := rfl
@[simp] theorem setWgm_cmpaBuf (v : BitVec 2) : (setWgm v s).cmpaBuf = s.cmpaBuf := rfl
@[simp] theorem setWgm_cmpbBuf (v : BitVec 2) : (setWgm v s).cmpbBuf = s.cmpbBuf := rfl
@[simp] theorem setWgm_cmpaAct (v : BitVec 2) : (setWgm v s).cmpaAct = s.cmpaAct := rfl
@[simp] theorem setWgm_cmpbAct (v : BitVec 2) : (setWgm v s).cmpbAct = s.cmpbAct := rfl
@[simp] theorem setWgm_cnt (v : BitVec 2) : (setWgm v s).cnt = s.cnt := rfl
@[simp] theorem setWgm_dir (v : BitVec 2) : (setWgm v s).dir = s.dir := rfl
@[simp] theorem setWgm_ien (v : BitVec 2) : (setWgm v s).ien = s.ien := rfl
@[simp] theorem setWgm_ifr (v : BitVec 2) : (setWgm v s).ifr = s.ifr := rfl
@[simp] theorem setWgm_gie (v : BitVec 2) : (setWgm v s).gie = s.gie := rfl
@[simp] theorem setWgm_ddr (v : BitVec 2) : (setWgm v s).ddr = s.ddr := rfl
@[simp] theorem setWgm_fault (v : BitVec 2) : (setWgm v s).fault = s.fault := rfl
@[simp] theorem setWgm_k (v : BitVec 2) : (setWgm v s).k = s.k := rfl
@[simp] theorem setWgm_params (v : BitVec 2) : (setWgm v s).params = s.params := rfl
@[simp] theorem setWgm_trace (v : BitVec 2) : (setWgm v s).trace = s.trace := rfl
@[simp] theorem setWgm_fresh (v : BitVec 2) : (setWgm v s).fresh = s.fresh := rfl

@[simp] theorem setCs_fgpc (v : BitVec 3) : (setCs v s).fgpc = s.fgpc := rfl
@[simp] theorem setCs_table (v : BitVec 3) : (setCs v s).table = s.table := rfl
@[simp] theorem setCs_cursor (v : BitVec 3) : (setCs v s).cursor = s.cursor := rfl
@[simp] theorem setCs_pending (v : BitVec 3) : (setCs v s).pending = s.pending := rfl
@[simp] theorem setCs_tmask (v : BitVec 3) : (setCs v s).tmask = s.tmask := rfl
@[simp] theorem setCs_mode (v : BitVec 3) : (setCs v s).mode = s.mode := rfl
@[simp] theorem setCs_presc (v : BitVec 3) : (setCs v s).presc = v.setWidth 8 := rfl
@[simp] theorem setCs_top (v : BitVec 3) : (setCs v s).top = s.top := rfl
@[simp] theorem setCs_chen (v : BitVec 3) : (setCs v s).chen = s.chen := rfl
@[simp] theorem setCs_cmpaBuf (v : BitVec 3) : (setCs v s).cmpaBuf = s.cmpaBuf := rfl
@[simp] theorem setCs_cmpbBuf (v : BitVec 3) : (setCs v s).cmpbBuf = s.cmpbBuf := rfl
@[simp] theorem setCs_cmpaAct (v : BitVec 3) : (setCs v s).cmpaAct = s.cmpaAct := rfl
@[simp] theorem setCs_cmpbAct (v : BitVec 3) : (setCs v s).cmpbAct = s.cmpbAct := rfl
@[simp] theorem setCs_cnt (v : BitVec 3) : (setCs v s).cnt = s.cnt := rfl
@[simp] theorem setCs_dir (v : BitVec 3) : (setCs v s).dir = s.dir := rfl
@[simp] theorem setCs_ien (v : BitVec 3) : (setCs v s).ien = s.ien := rfl
@[simp] theorem setCs_ifr (v : BitVec 3) : (setCs v s).ifr = s.ifr := rfl
@[simp] theorem setCs_gie (v : BitVec 3) : (setCs v s).gie = s.gie := rfl
@[simp] theorem setCs_ddr (v : BitVec 3) : (setCs v s).ddr = s.ddr := rfl
@[simp] theorem setCs_fault (v : BitVec 3) : (setCs v s).fault = s.fault := rfl
@[simp] theorem setCs_k (v : BitVec 3) : (setCs v s).k = s.k := rfl
@[simp] theorem setCs_params (v : BitVec 3) : (setCs v s).params = s.params := rfl
@[simp] theorem setCs_trace (v : BitVec 3) : (setCs v s).trace = s.trace := rfl
@[simp] theorem setCs_fresh (v : BitVec 3) : (setCs v s).fresh = s.fresh := rfl

@[simp] theorem setChen_fgpc (v : Reg8) : (setChen v s).fgpc = s.fgpc := rfl
@[simp] theorem setChen_table (v : Reg8) : (setChen v s).table = s.table := rfl
@[simp] theorem setChen_cursor (v : Reg8) : (setChen v s).cursor = s.cursor := rfl
@[simp] theorem setChen_pending (v : Reg8) : (setChen v s).pending = s.pending := rfl
@[simp] theorem setChen_tmask (v : Reg8) : (setChen v s).tmask = s.tmask := rfl
@[simp] theorem setChen_mode (v : Reg8) : (setChen v s).mode = s.mode := rfl
@[simp] theorem setChen_presc (v : Reg8) : (setChen v s).presc = s.presc := rfl
@[simp] theorem setChen_top (v : Reg8) : (setChen v s).top = s.top := rfl
@[simp] theorem setChen_chen (v : Reg8) : (setChen v s).chen = v &&& 0x03 := rfl
@[simp] theorem setChen_cmpaBuf (v : Reg8) : (setChen v s).cmpaBuf = s.cmpaBuf := rfl
@[simp] theorem setChen_cmpbBuf (v : Reg8) : (setChen v s).cmpbBuf = s.cmpbBuf := rfl
@[simp] theorem setChen_cmpaAct (v : Reg8) : (setChen v s).cmpaAct = s.cmpaAct := rfl
@[simp] theorem setChen_cmpbAct (v : Reg8) : (setChen v s).cmpbAct = s.cmpbAct := rfl
@[simp] theorem setChen_cnt (v : Reg8) : (setChen v s).cnt = s.cnt := rfl
@[simp] theorem setChen_dir (v : Reg8) : (setChen v s).dir = s.dir := rfl
@[simp] theorem setChen_ien (v : Reg8) : (setChen v s).ien = s.ien := rfl
@[simp] theorem setChen_ifr (v : Reg8) : (setChen v s).ifr = s.ifr := rfl
@[simp] theorem setChen_gie (v : Reg8) : (setChen v s).gie = s.gie := rfl
@[simp] theorem setChen_ddr (v : Reg8) : (setChen v s).ddr = s.ddr := rfl
@[simp] theorem setChen_fault (v : Reg8) : (setChen v s).fault = s.fault := rfl
@[simp] theorem setChen_k (v : Reg8) : (setChen v s).k = s.k := rfl
@[simp] theorem setChen_params (v : Reg8) : (setChen v s).params = s.params := rfl
@[simp] theorem setChen_trace (v : Reg8) : (setChen v s).trace = s.trace := rfl
@[simp] theorem setChen_fresh (v : Reg8) : (setChen v s).fresh = s.fresh := rfl

@[simp] theorem setTmask_fgpc (v : Reg8) : (setTmask v s).fgpc = s.fgpc := rfl
@[simp] theorem setTmask_table (v : Reg8) : (setTmask v s).table = s.table := rfl
@[simp] theorem setTmask_cursor (v : Reg8) : (setTmask v s).cursor = s.cursor := rfl
@[simp] theorem setTmask_pending (v : Reg8) : (setTmask v s).pending = s.pending := rfl
@[simp] theorem setTmask_tmask (v : Reg8) : (setTmask v s).tmask = v &&& 0x03 := rfl
@[simp] theorem setTmask_mode (v : Reg8) : (setTmask v s).mode = s.mode := rfl
@[simp] theorem setTmask_presc (v : Reg8) : (setTmask v s).presc = s.presc := rfl
@[simp] theorem setTmask_top (v : Reg8) : (setTmask v s).top = s.top := rfl
@[simp] theorem setTmask_chen (v : Reg8) : (setTmask v s).chen = s.chen := rfl
@[simp] theorem setTmask_cmpaBuf (v : Reg8) : (setTmask v s).cmpaBuf = s.cmpaBuf := rfl
@[simp] theorem setTmask_cmpbBuf (v : Reg8) : (setTmask v s).cmpbBuf = s.cmpbBuf := rfl
@[simp] theorem setTmask_cmpaAct (v : Reg8) : (setTmask v s).cmpaAct = s.cmpaAct := rfl
@[simp] theorem setTmask_cmpbAct (v : Reg8) : (setTmask v s).cmpbAct = s.cmpbAct := rfl
@[simp] theorem setTmask_cnt (v : Reg8) : (setTmask v s).cnt = s.cnt := rfl
@[simp] theorem setTmask_dir (v : Reg8) : (setTmask v s).dir = s.dir := rfl
@[simp] theorem setTmask_ien (v : Reg8) : (setTmask v s).ien = s.ien := rfl
@[simp] theorem setTmask_ifr (v : Reg8) : (setTmask v s).ifr = s.ifr := rfl
@[simp] theorem setTmask_gie (v : Reg8) : (setTmask v s).gie = s.gie := rfl
@[simp] theorem setTmask_ddr (v : Reg8) : (setTmask v s).ddr = s.ddr := rfl
@[simp] theorem setTmask_fault (v : Reg8) : (setTmask v s).fault = s.fault := rfl
@[simp] theorem setTmask_k (v : Reg8) : (setTmask v s).k = s.k := rfl
@[simp] theorem setTmask_params (v : Reg8) : (setTmask v s).params = s.params := rfl
@[simp] theorem setTmask_trace (v : Reg8) : (setTmask v s).trace = s.trace := rfl
@[simp] theorem setTmask_fresh (v : Reg8) : (setTmask v s).fresh = s.fresh := rfl

@[simp] theorem setIenOvf_fgpc (b : Bool) : (setIenOvf b s).fgpc = s.fgpc := rfl
@[simp] theorem setIenOvf_table (b : Bool) : (setIenOvf b s).table = s.table := rfl
@[simp] theorem setIenOvf_cursor (b : Bool) : (setIenOvf b s).cursor = s.cursor := rfl
@[simp] theorem setIenOvf_pending (b : Bool) : (setIenOvf b s).pending = s.pending := rfl
@[simp] theorem setIenOvf_tmask (b : Bool) : (setIenOvf b s).tmask = s.tmask := rfl
@[simp] theorem setIenOvf_mode (b : Bool) : (setIenOvf b s).mode = s.mode := rfl
@[simp] theorem setIenOvf_presc (b : Bool) : (setIenOvf b s).presc = s.presc := rfl
@[simp] theorem setIenOvf_top (b : Bool) : (setIenOvf b s).top = s.top := rfl
@[simp] theorem setIenOvf_chen (b : Bool) : (setIenOvf b s).chen = s.chen := rfl
@[simp] theorem setIenOvf_cmpaBuf (b : Bool) : (setIenOvf b s).cmpaBuf = s.cmpaBuf := rfl
@[simp] theorem setIenOvf_cmpbBuf (b : Bool) : (setIenOvf b s).cmpbBuf = s.cmpbBuf := rfl
@[simp] theorem setIenOvf_cmpaAct (b : Bool) : (setIenOvf b s).cmpaAct = s.cmpaAct := rfl
@[simp] theorem setIenOvf_cmpbAct (b : Bool) : (setIenOvf b s).cmpbAct = s.cmpbAct := rfl
@[simp] theorem setIenOvf_cnt (b : Bool) : (setIenOvf b s).cnt = s.cnt := rfl
@[simp] theorem setIenOvf_dir (b : Bool) : (setIenOvf b s).dir = s.dir := rfl
@[simp] theorem setIenOvf_ien (b : Bool) : (setIenOvf b s).ien = (BitVec.ofBool b).setWidth 8 := rfl
@[simp] theorem setIenOvf_ifr (b : Bool) : (setIenOvf b s).ifr = s.ifr := rfl
@[simp] theorem setIenOvf_gie (b : Bool) : (setIenOvf b s).gie = s.gie := rfl
@[simp] theorem setIenOvf_ddr (b : Bool) : (setIenOvf b s).ddr = s.ddr := rfl
@[simp] theorem setIenOvf_fault (b : Bool) : (setIenOvf b s).fault = s.fault := rfl
@[simp] theorem setIenOvf_k (b : Bool) : (setIenOvf b s).k = s.k := rfl
@[simp] theorem setIenOvf_params (b : Bool) : (setIenOvf b s).params = s.params := rfl
@[simp] theorem setIenOvf_trace (b : Bool) : (setIenOvf b s).trace = s.trace := rfl
@[simp] theorem setIenOvf_fresh (b : Bool) : (setIenOvf b s).fresh = s.fresh := rfl

@[simp] theorem setIfrOvf_fgpc (b : Bool) : (setIfrOvf b s).fgpc = s.fgpc := rfl
@[simp] theorem setIfrOvf_table (b : Bool) : (setIfrOvf b s).table = s.table := rfl
@[simp] theorem setIfrOvf_cursor (b : Bool) : (setIfrOvf b s).cursor = s.cursor := rfl
@[simp] theorem setIfrOvf_pending (b : Bool) : (setIfrOvf b s).pending = s.pending := rfl
@[simp] theorem setIfrOvf_tmask (b : Bool) : (setIfrOvf b s).tmask = s.tmask := rfl
@[simp] theorem setIfrOvf_mode (b : Bool) : (setIfrOvf b s).mode = s.mode := rfl
@[simp] theorem setIfrOvf_presc (b : Bool) : (setIfrOvf b s).presc = s.presc := rfl
@[simp] theorem setIfrOvf_top (b : Bool) : (setIfrOvf b s).top = s.top := rfl
@[simp] theorem setIfrOvf_chen (b : Bool) : (setIfrOvf b s).chen = s.chen := rfl
@[simp] theorem setIfrOvf_cmpaBuf (b : Bool) : (setIfrOvf b s).cmpaBuf = s.cmpaBuf := rfl
@[simp] theorem setIfrOvf_cmpbBuf (b : Bool) : (setIfrOvf b s).cmpbBuf = s.cmpbBuf := rfl
@[simp] theorem setIfrOvf_cmpaAct (b : Bool) : (setIfrOvf b s).cmpaAct = s.cmpaAct := rfl
@[simp] theorem setIfrOvf_cmpbAct (b : Bool) : (setIfrOvf b s).cmpbAct = s.cmpbAct := rfl
@[simp] theorem setIfrOvf_cnt (b : Bool) : (setIfrOvf b s).cnt = s.cnt := rfl
@[simp] theorem setIfrOvf_dir (b : Bool) : (setIfrOvf b s).dir = s.dir := rfl
@[simp] theorem setIfrOvf_ien (b : Bool) : (setIfrOvf b s).ien = s.ien := rfl
@[simp] theorem setIfrOvf_ifr (b : Bool) : (setIfrOvf b s).ifr = (BitVec.ofBool b).setWidth 8 := rfl
@[simp] theorem setIfrOvf_gie (b : Bool) : (setIfrOvf b s).gie = s.gie := rfl
@[simp] theorem setIfrOvf_ddr (b : Bool) : (setIfrOvf b s).ddr = s.ddr := rfl
@[simp] theorem setIfrOvf_fault (b : Bool) : (setIfrOvf b s).fault = s.fault := rfl
@[simp] theorem setIfrOvf_k (b : Bool) : (setIfrOvf b s).k = s.k := rfl
@[simp] theorem setIfrOvf_params (b : Bool) : (setIfrOvf b s).params = s.params := rfl
@[simp] theorem setIfrOvf_trace (b : Bool) : (setIfrOvf b s).trace = s.trace := rfl
@[simp] theorem setIfrOvf_fresh (b : Bool) : (setIfrOvf b s).fresh = s.fresh := rfl

@[simp] theorem setDdr_fgpc (v : Reg8) : (setDdr v s).fgpc = s.fgpc := rfl
@[simp] theorem setDdr_table (v : Reg8) : (setDdr v s).table = s.table := rfl
@[simp] theorem setDdr_cursor (v : Reg8) : (setDdr v s).cursor = s.cursor := rfl
@[simp] theorem setDdr_pending (v : Reg8) : (setDdr v s).pending = s.pending := rfl
@[simp] theorem setDdr_tmask (v : Reg8) : (setDdr v s).tmask = s.tmask := rfl
@[simp] theorem setDdr_mode (v : Reg8) : (setDdr v s).mode = s.mode := rfl
@[simp] theorem setDdr_presc (v : Reg8) : (setDdr v s).presc = s.presc := rfl
@[simp] theorem setDdr_top (v : Reg8) : (setDdr v s).top = s.top := rfl
@[simp] theorem setDdr_chen (v : Reg8) : (setDdr v s).chen = s.chen := rfl
@[simp] theorem setDdr_cmpaBuf (v : Reg8) : (setDdr v s).cmpaBuf = s.cmpaBuf := rfl
@[simp] theorem setDdr_cmpbBuf (v : Reg8) : (setDdr v s).cmpbBuf = s.cmpbBuf := rfl
@[simp] theorem setDdr_cmpaAct (v : Reg8) : (setDdr v s).cmpaAct = s.cmpaAct := rfl
@[simp] theorem setDdr_cmpbAct (v : Reg8) : (setDdr v s).cmpbAct = s.cmpbAct := rfl
@[simp] theorem setDdr_cnt (v : Reg8) : (setDdr v s).cnt = s.cnt := rfl
@[simp] theorem setDdr_dir (v : Reg8) : (setDdr v s).dir = s.dir := rfl
@[simp] theorem setDdr_ien (v : Reg8) : (setDdr v s).ien = s.ien := rfl
@[simp] theorem setDdr_ifr (v : Reg8) : (setDdr v s).ifr = s.ifr := rfl
@[simp] theorem setDdr_gie (v : Reg8) : (setDdr v s).gie = s.gie := rfl
@[simp] theorem setDdr_ddr (v : Reg8) : (setDdr v s).ddr = v &&& 0x03 := rfl
@[simp] theorem setDdr_fault (v : Reg8) : (setDdr v s).fault = s.fault := rfl
@[simp] theorem setDdr_k (v : Reg8) : (setDdr v s).k = s.k := rfl
@[simp] theorem setDdr_params (v : Reg8) : (setDdr v s).params = s.params := rfl
@[simp] theorem setDdr_trace (v : Reg8) : (setDdr v s).trace = s.trace := rfl
@[simp] theorem setDdr_fresh (v : Reg8) : (setDdr v s).fresh = s.fresh := rfl

@[simp] theorem setGie_fgpc (b : Bool) : (setGie b s).fgpc = s.fgpc := rfl
@[simp] theorem setGie_table (b : Bool) : (setGie b s).table = s.table := rfl
@[simp] theorem setGie_cursor (b : Bool) : (setGie b s).cursor = s.cursor := rfl
@[simp] theorem setGie_pending (b : Bool) : (setGie b s).pending = s.pending := rfl
@[simp] theorem setGie_tmask (b : Bool) : (setGie b s).tmask = s.tmask := rfl
@[simp] theorem setGie_mode (b : Bool) : (setGie b s).mode = s.mode := rfl
@[simp] theorem setGie_presc (b : Bool) : (setGie b s).presc = s.presc := rfl
@[simp] theorem setGie_top (b : Bool) : (setGie b s).top = s.top := rfl
@[simp] theorem setGie_chen (b : Bool) : (setGie b s).chen = s.chen := rfl
@[simp] theorem setGie_cmpaBuf (b : Bool) : (setGie b s).cmpaBuf = s.cmpaBuf := rfl
@[simp] theorem setGie_cmpbBuf (b : Bool) : (setGie b s).cmpbBuf = s.cmpbBuf := rfl
@[simp] theorem setGie_cmpaAct (b : Bool) : (setGie b s).cmpaAct = s.cmpaAct := rfl
@[simp] theorem setGie_cmpbAct (b : Bool) : (setGie b s).cmpbAct = s.cmpbAct := rfl
@[simp] theorem setGie_cnt (b : Bool) : (setGie b s).cnt = s.cnt := rfl
@[simp] theorem setGie_dir (b : Bool) : (setGie b s).dir = s.dir := rfl
@[simp] theorem setGie_ien (b : Bool) : (setGie b s).ien = s.ien := rfl
@[simp] theorem setGie_ifr (b : Bool) : (setGie b s).ifr = s.ifr := rfl
@[simp] theorem setGie_gie (b : Bool) : (setGie b s).gie = b := rfl
@[simp] theorem setGie_ddr (b : Bool) : (setGie b s).ddr = s.ddr := rfl
@[simp] theorem setGie_fault (b : Bool) : (setGie b s).fault = s.fault := rfl
@[simp] theorem setGie_k (b : Bool) : (setGie b s).k = s.k := rfl
@[simp] theorem setGie_params (b : Bool) : (setGie b s).params = s.params := rfl
@[simp] theorem setGie_trace (b : Bool) : (setGie b s).trace = s.trace := rfl
@[simp] theorem setGie_fresh (b : Bool) : (setGie b s).fresh = s.fresh := rfl

@[simp] theorem setPending_fgpc (b : Bool) : (setPending b s).fgpc = s.fgpc := rfl
@[simp] theorem setPending_table (b : Bool) : (setPending b s).table = s.table := rfl
@[simp] theorem setPending_cursor (b : Bool) : (setPending b s).cursor = s.cursor := rfl
@[simp] theorem setPending_pending (b : Bool) : (setPending b s).pending = b := rfl
@[simp] theorem setPending_tmask (b : Bool) : (setPending b s).tmask = s.tmask := rfl
@[simp] theorem setPending_mode (b : Bool) : (setPending b s).mode = s.mode := rfl
@[simp] theorem setPending_presc (b : Bool) : (setPending b s).presc = s.presc := rfl
@[simp] theorem setPending_top (b : Bool) : (setPending b s).top = s.top := rfl
@[simp] theorem setPending_chen (b : Bool) : (setPending b s).chen = s.chen := rfl
@[simp] theorem setPending_cmpaBuf (b : Bool) : (setPending b s).cmpaBuf = s.cmpaBuf := rfl
@[simp] theorem setPending_cmpbBuf (b : Bool) : (setPending b s).cmpbBuf = s.cmpbBuf := rfl
@[simp] theorem setPending_cmpaAct (b : Bool) : (setPending b s).cmpaAct = s.cmpaAct := rfl
@[simp] theorem setPending_cmpbAct (b : Bool) : (setPending b s).cmpbAct = s.cmpbAct := rfl
@[simp] theorem setPending_cnt (b : Bool) : (setPending b s).cnt = s.cnt := rfl
@[simp] theorem setPending_dir (b : Bool) : (setPending b s).dir = s.dir := rfl
@[simp] theorem setPending_ien (b : Bool) : (setPending b s).ien = s.ien := rfl
@[simp] theorem setPending_ifr (b : Bool) : (setPending b s).ifr = s.ifr := rfl
@[simp] theorem setPending_gie (b : Bool) : (setPending b s).gie = s.gie := rfl
@[simp] theorem setPending_ddr (b : Bool) : (setPending b s).ddr = s.ddr := rfl
@[simp] theorem setPending_fault (b : Bool) : (setPending b s).fault = s.fault := rfl
@[simp] theorem setPending_k (b : Bool) : (setPending b s).k = s.k := rfl
@[simp] theorem setPending_params (b : Bool) : (setPending b s).params = s.params := rfl
@[simp] theorem setPending_trace (b : Bool) : (setPending b s).trace = s.trace := rfl
@[simp] theorem setPending_fresh (b : Bool) : (setPending b s).fresh = s.fresh := rfl

@[simp] theorem setDir_fgpc (d : Dir) : (setDir d s).fgpc = s.fgpc := rfl
@[simp] theorem setDir_table (d : Dir) : (setDir d s).table = s.table := rfl
@[simp] theorem setDir_cursor (d : Dir) : (setDir d s).cursor = s.cursor := rfl
@[simp] theorem setDir_pending (d : Dir) : (setDir d s).pending = s.pending := rfl
@[simp] theorem setDir_tmask (d : Dir) : (setDir d s).tmask = s.tmask := rfl
@[simp] theorem setDir_mode (d : Dir) : (setDir d s).mode = s.mode := rfl
@[simp] theorem setDir_presc (d : Dir) : (setDir d s).presc = s.presc := rfl
@[simp] theorem setDir_top (d : Dir) : (setDir d s).top = s.top := rfl
@[simp] theorem setDir_chen (d : Dir) : (setDir d s).chen = s.chen := rfl
@[simp] theorem setDir_cmpaBuf (d : Dir) : (setDir d s).cmpaBuf = s.cmpaBuf := rfl
@[simp] theorem setDir_cmpbBuf (d : Dir) : (setDir d s).cmpbBuf = s.cmpbBuf := rfl
@[simp] theorem setDir_cmpaAct (d : Dir) : (setDir d s).cmpaAct = s.cmpaAct := rfl
@[simp] theorem setDir_cmpbAct (d : Dir) : (setDir d s).cmpbAct = s.cmpbAct := rfl
@[simp] theorem setDir_cnt (d : Dir) : (setDir d s).cnt = s.cnt := rfl
@[simp] theorem setDir_dir (d : Dir) : (setDir d s).dir = d := rfl
@[simp] theorem setDir_ien (d : Dir) : (setDir d s).ien = s.ien := rfl
@[simp] theorem setDir_ifr (d : Dir) : (setDir d s).ifr = s.ifr := rfl
@[simp] theorem setDir_gie (d : Dir) : (setDir d s).gie = s.gie := rfl
@[simp] theorem setDir_ddr (d : Dir) : (setDir d s).ddr = s.ddr := rfl
@[simp] theorem setDir_fault (d : Dir) : (setDir d s).fault = s.fault := rfl
@[simp] theorem setDir_k (d : Dir) : (setDir d s).k = s.k := rfl
@[simp] theorem setDir_params (d : Dir) : (setDir d s).params = s.params := rfl
@[simp] theorem setDir_trace (d : Dir) : (setDir d s).trace = s.trace := rfl
@[simp] theorem setDir_fresh (d : Dir) : (setDir d s).fresh = s.fresh := rfl

@[simp] theorem tableWrite_fgpc (i v : Nat) : (tableWrite i v s).fgpc = s.fgpc := rfl
@[simp] theorem tableWrite_table (i v : Nat) : (tableWrite i v s).table = s.table.write i v := rfl
@[simp] theorem tableWrite_cursor (i v : Nat) : (tableWrite i v s).cursor = s.cursor := rfl
@[simp] theorem tableWrite_pending (i v : Nat) : (tableWrite i v s).pending = s.pending := rfl
@[simp] theorem tableWrite_tmask (i v : Nat) : (tableWrite i v s).tmask = s.tmask := rfl
@[simp] theorem tableWrite_mode (i v : Nat) : (tableWrite i v s).mode = s.mode := rfl
@[simp] theorem tableWrite_presc (i v : Nat) : (tableWrite i v s).presc = s.presc := rfl
@[simp] theorem tableWrite_top (i v : Nat) : (tableWrite i v s).top = s.top := rfl
@[simp] theorem tableWrite_chen (i v : Nat) : (tableWrite i v s).chen = s.chen := rfl
@[simp] theorem tableWrite_cmpaBuf (i v : Nat) : (tableWrite i v s).cmpaBuf = s.cmpaBuf := rfl
@[simp] theorem tableWrite_cmpbBuf (i v : Nat) : (tableWrite i v s).cmpbBuf = s.cmpbBuf := rfl
@[simp] theorem tableWrite_cmpaAct (i v : Nat) : (tableWrite i v s).cmpaAct = s.cmpaAct := rfl
@[simp] theorem tableWrite_cmpbAct (i v : Nat) : (tableWrite i v s).cmpbAct = s.cmpbAct := rfl
@[simp] theorem tableWrite_cnt (i v : Nat) : (tableWrite i v s).cnt = s.cnt := rfl
@[simp] theorem tableWrite_dir (i v : Nat) : (tableWrite i v s).dir = s.dir := rfl
@[simp] theorem tableWrite_ien (i v : Nat) : (tableWrite i v s).ien = s.ien := rfl
@[simp] theorem tableWrite_ifr (i v : Nat) : (tableWrite i v s).ifr = s.ifr := rfl
@[simp] theorem tableWrite_gie (i v : Nat) : (tableWrite i v s).gie = s.gie := rfl
@[simp] theorem tableWrite_ddr (i v : Nat) : (tableWrite i v s).ddr = s.ddr := rfl
@[simp] theorem tableWrite_fault (i v : Nat) : (tableWrite i v s).fault = s.fault := rfl
@[simp] theorem tableWrite_k (i v : Nat) : (tableWrite i v s).k = s.k := rfl
@[simp] theorem tableWrite_params (i v : Nat) : (tableWrite i v s).params = s.params := rfl
@[simp] theorem tableWrite_trace (i v : Nat) : (tableWrite i v s).trace = s.trace := rfl
@[simp] theorem tableWrite_fresh (i v : Nat) : (tableWrite i v s).fresh = s.fresh := rfl

@[simp] theorem takeFault_fgpc (f : Fault) : (takeFault f s).fgpc = s.fgpc := rfl
@[simp] theorem takeFault_table (f : Fault) : (takeFault f s).table = s.table := rfl
@[simp] theorem takeFault_cursor (f : Fault) : (takeFault f s).cursor = s.cursor := rfl
@[simp] theorem takeFault_pending (f : Fault) : (takeFault f s).pending = s.pending := rfl
@[simp] theorem takeFault_tmask (f : Fault) : (takeFault f s).tmask = s.tmask := rfl
@[simp] theorem takeFault_mode (f : Fault) : (takeFault f s).mode = s.mode := rfl
@[simp] theorem takeFault_presc (f : Fault) : (takeFault f s).presc = s.presc := rfl
@[simp] theorem takeFault_top (f : Fault) : (takeFault f s).top = s.top := rfl
@[simp] theorem takeFault_chen (f : Fault) : (takeFault f s).chen = s.chen := rfl
@[simp] theorem takeFault_cmpaBuf (f : Fault) : (takeFault f s).cmpaBuf = s.cmpaBuf := rfl
@[simp] theorem takeFault_cmpbBuf (f : Fault) : (takeFault f s).cmpbBuf = s.cmpbBuf := rfl
@[simp] theorem takeFault_cmpaAct (f : Fault) : (takeFault f s).cmpaAct = s.cmpaAct := rfl
@[simp] theorem takeFault_cmpbAct (f : Fault) : (takeFault f s).cmpbAct = s.cmpbAct := rfl
@[simp] theorem takeFault_cnt (f : Fault) : (takeFault f s).cnt = s.cnt := rfl
@[simp] theorem takeFault_dir (f : Fault) : (takeFault f s).dir = s.dir := rfl
@[simp] theorem takeFault_ien (f : Fault) : (takeFault f s).ien = s.ien := rfl
@[simp] theorem takeFault_ifr (f : Fault) : (takeFault f s).ifr = s.ifr := rfl
@[simp] theorem takeFault_gie (f : Fault) : (takeFault f s).gie = s.gie := rfl
@[simp] theorem takeFault_ddr (f : Fault) : (takeFault f s).ddr = s.ddr := rfl
@[simp] theorem takeFault_fault (f : Fault) : (takeFault f s).fault = some f := rfl
@[simp] theorem takeFault_k (f : Fault) : (takeFault f s).k = s.k := rfl
@[simp] theorem takeFault_params (f : Fault) : (takeFault f s).params = s.params := rfl
@[simp] theorem takeFault_trace (f : Fault) : (takeFault f s).trace = s.trace := rfl
@[simp] theorem takeFault_fresh (f : Fault) : (takeFault f s).fresh = s.fresh := rfl

@[simp] theorem enterHandler_fgpc : (enterHandler s).fgpc = s.fgpc := rfl
@[simp] theorem enterHandler_table : (enterHandler s).table = s.table := rfl
@[simp] theorem enterHandler_cursor : (enterHandler s).cursor = s.cursor := rfl
@[simp] theorem enterHandler_pending : (enterHandler s).pending = s.pending := rfl
@[simp] theorem enterHandler_tmask : (enterHandler s).tmask = s.tmask := rfl
@[simp] theorem enterHandler_mode : (enterHandler s).mode = s.mode := rfl
@[simp] theorem enterHandler_presc : (enterHandler s).presc = s.presc := rfl
@[simp] theorem enterHandler_top : (enterHandler s).top = s.top := rfl
@[simp] theorem enterHandler_chen : (enterHandler s).chen = s.chen := rfl
@[simp] theorem enterHandler_cmpaBuf : (enterHandler s).cmpaBuf = s.cmpaBuf := rfl
@[simp] theorem enterHandler_cmpbBuf : (enterHandler s).cmpbBuf = s.cmpbBuf := rfl
@[simp] theorem enterHandler_cmpaAct : (enterHandler s).cmpaAct = s.cmpaAct := rfl
@[simp] theorem enterHandler_cmpbAct : (enterHandler s).cmpbAct = s.cmpbAct := rfl
@[simp] theorem enterHandler_cnt : (enterHandler s).cnt = s.cnt := rfl
@[simp] theorem enterHandler_dir : (enterHandler s).dir = s.dir := rfl
@[simp] theorem enterHandler_ien : (enterHandler s).ien = s.ien := rfl
@[simp] theorem enterHandler_ifr : (enterHandler s).ifr = 0 := rfl
@[simp] theorem enterHandler_gie : (enterHandler s).gie = s.gie := rfl
@[simp] theorem enterHandler_ddr : (enterHandler s).ddr = s.ddr := rfl
@[simp] theorem enterHandler_fault : (enterHandler s).fault = s.fault := rfl
@[simp] theorem enterHandler_k : (enterHandler s).k = s.k := rfl
@[simp] theorem enterHandler_params : (enterHandler s).params = s.params := rfl
@[simp] theorem enterHandler_trace : (enterHandler s).trace = s.trace := rfl
@[simp] theorem enterHandler_fresh : (enterHandler s).fresh = s.fresh := rfl

@[simp] theorem leaveHandler_fgpc : (leaveHandler s).fgpc = s.fgpc := rfl
@[simp] theorem leaveHandler_table : (leaveHandler s).table = s.table := rfl
@[simp] theorem leaveHandler_cursor : (leaveHandler s).cursor = s.cursor := rfl
@[simp] theorem leaveHandler_pending : (leaveHandler s).pending = s.pending := rfl
@[simp] theorem leaveHandler_tmask : (leaveHandler s).tmask = s.tmask := rfl
@[simp] theorem leaveHandler_mode : (leaveHandler s).mode = s.mode := rfl
@[simp] theorem leaveHandler_presc : (leaveHandler s).presc = s.presc := rfl
@[simp] theorem leaveHandler_top : (leaveHandler s).top = s.top := rfl
@[simp] theorem leaveHandler_chen : (leaveHandler s).chen = s.chen := rfl
@[simp] theorem leaveHandler_cmpaBuf : (leaveHandler s).cmpaBuf = s.cmpaBuf := rfl
@[simp] theorem leaveHandler_cmpbBuf : (leaveHandler s).cmpbBuf = s.cmpbBuf := rfl
@[simp] theorem leaveHandler_cmpaAct : (leaveHandler s).cmpaAct = s.cmpaAct := rfl
@[simp] theorem leaveHandler_cmpbAct : (leaveHandler s).cmpbAct = s.cmpbAct := rfl
@[simp] theorem leaveHandler_cnt : (leaveHandler s).cnt = s.cnt := rfl
@[simp] theorem leaveHandler_dir : (leaveHandler s).dir = s.dir := rfl
@[simp] theorem leaveHandler_ien : (leaveHandler s).ien = s.ien := rfl
@[simp] theorem leaveHandler_ifr : (leaveHandler s).ifr = s.ifr := rfl
@[simp] theorem leaveHandler_gie : (leaveHandler s).gie = s.gie := rfl
@[simp] theorem leaveHandler_ddr : (leaveHandler s).ddr = s.ddr := rfl
@[simp] theorem leaveHandler_fault : (leaveHandler s).fault = s.fault := rfl
@[simp] theorem leaveHandler_k : (leaveHandler s).k = s.k := rfl
@[simp] theorem leaveHandler_params : (leaveHandler s).params = s.params := rfl
@[simp] theorem leaveHandler_trace : (leaveHandler s).trace = s.trace := rfl
@[simp] theorem leaveHandler_fresh : (leaveHandler s).fresh = s.fresh := rfl

@[simp] theorem advanceFgpc_fgpc : (advanceFgpc s).fgpc = s.fgpc + 1 := rfl
@[simp] theorem advanceFgpc_table : (advanceFgpc s).table = s.table := rfl
@[simp] theorem advanceFgpc_cursor : (advanceFgpc s).cursor = s.cursor := rfl
@[simp] theorem advanceFgpc_pending : (advanceFgpc s).pending = s.pending := rfl
@[simp] theorem advanceFgpc_tmask : (advanceFgpc s).tmask = s.tmask := rfl
@[simp] theorem advanceFgpc_mode : (advanceFgpc s).mode = s.mode := rfl
@[simp] theorem advanceFgpc_presc : (advanceFgpc s).presc = s.presc := rfl
@[simp] theorem advanceFgpc_top : (advanceFgpc s).top = s.top := rfl
@[simp] theorem advanceFgpc_chen : (advanceFgpc s).chen = s.chen := rfl
@[simp] theorem advanceFgpc_cmpaBuf : (advanceFgpc s).cmpaBuf = s.cmpaBuf := rfl
@[simp] theorem advanceFgpc_cmpbBuf : (advanceFgpc s).cmpbBuf = s.cmpbBuf := rfl
@[simp] theorem advanceFgpc_cmpaAct : (advanceFgpc s).cmpaAct = s.cmpaAct := rfl
@[simp] theorem advanceFgpc_cmpbAct : (advanceFgpc s).cmpbAct = s.cmpbAct := rfl
@[simp] theorem advanceFgpc_cnt : (advanceFgpc s).cnt = s.cnt := rfl
@[simp] theorem advanceFgpc_dir : (advanceFgpc s).dir = s.dir := rfl
@[simp] theorem advanceFgpc_ien : (advanceFgpc s).ien = s.ien := rfl
@[simp] theorem advanceFgpc_ifr : (advanceFgpc s).ifr = s.ifr := rfl
@[simp] theorem advanceFgpc_gie : (advanceFgpc s).gie = s.gie := rfl
@[simp] theorem advanceFgpc_ddr : (advanceFgpc s).ddr = s.ddr := rfl
@[simp] theorem advanceFgpc_fault : (advanceFgpc s).fault = s.fault := rfl
@[simp] theorem advanceFgpc_k : (advanceFgpc s).k = s.k := rfl
@[simp] theorem advanceFgpc_params : (advanceFgpc s).params = s.params := rfl
@[simp] theorem advanceFgpc_trace : (advanceFgpc s).trace = s.trace := rfl
@[simp] theorem advanceFgpc_fresh : (advanceFgpc s).fresh = s.fresh := rfl

@[simp] theorem setCursor_fgpc (v : Nat) : (setCursor v s).fgpc = s.fgpc := rfl
@[simp] theorem setCursor_table (v : Nat) : (setCursor v s).table = s.table := rfl
@[simp] theorem setCursor_cursor (v : Nat) : (setCursor v s).cursor = v := rfl
@[simp] theorem setCursor_pending (v : Nat) : (setCursor v s).pending = s.pending := rfl
@[simp] theorem setCursor_tmask (v : Nat) : (setCursor v s).tmask = s.tmask := rfl
@[simp] theorem setCursor_mode (v : Nat) : (setCursor v s).mode = s.mode := rfl
@[simp] theorem setCursor_presc (v : Nat) : (setCursor v s).presc = s.presc := rfl
@[simp] theorem setCursor_top (v : Nat) : (setCursor v s).top = s.top := rfl
@[simp] theorem setCursor_chen (v : Nat) : (setCursor v s).chen = s.chen := rfl
@[simp] theorem setCursor_cmpaBuf (v : Nat) : (setCursor v s).cmpaBuf = s.cmpaBuf := rfl
@[simp] theorem setCursor_cmpbBuf (v : Nat) : (setCursor v s).cmpbBuf = s.cmpbBuf := rfl
@[simp] theorem setCursor_cmpaAct (v : Nat) : (setCursor v s).cmpaAct = s.cmpaAct := rfl
@[simp] theorem setCursor_cmpbAct (v : Nat) : (setCursor v s).cmpbAct = s.cmpbAct := rfl
@[simp] theorem setCursor_cnt (v : Nat) : (setCursor v s).cnt = s.cnt := rfl
@[simp] theorem setCursor_dir (v : Nat) : (setCursor v s).dir = s.dir := rfl
@[simp] theorem setCursor_ien (v : Nat) : (setCursor v s).ien = s.ien := rfl
@[simp] theorem setCursor_ifr (v : Nat) : (setCursor v s).ifr = s.ifr := rfl
@[simp] theorem setCursor_gie (v : Nat) : (setCursor v s).gie = s.gie := rfl
@[simp] theorem setCursor_ddr (v : Nat) : (setCursor v s).ddr = s.ddr := rfl
@[simp] theorem setCursor_fault (v : Nat) : (setCursor v s).fault = s.fault := rfl
@[simp] theorem setCursor_k (v : Nat) : (setCursor v s).k = s.k := rfl
@[simp] theorem setCursor_params (v : Nat) : (setCursor v s).params = s.params := rfl
@[simp] theorem setCursor_trace (v : Nat) : (setCursor v s).trace = s.trace := rfl
@[simp] theorem setCursor_fresh (v : Nat) : (setCursor v s).fresh = s.fresh := rfl

@[simp] theorem countInvocation_fgpc : (countInvocation s).fgpc = s.fgpc := rfl
@[simp] theorem countInvocation_table : (countInvocation s).table = s.table := rfl
@[simp] theorem countInvocation_cursor : (countInvocation s).cursor = s.cursor := rfl
@[simp] theorem countInvocation_pending : (countInvocation s).pending = s.pending := rfl
@[simp] theorem countInvocation_tmask : (countInvocation s).tmask = s.tmask := rfl
@[simp] theorem countInvocation_mode : (countInvocation s).mode = s.mode := rfl
@[simp] theorem countInvocation_presc : (countInvocation s).presc = s.presc := rfl
@[simp] theorem countInvocation_top : (countInvocation s).top = s.top := rfl
@[simp] theorem countInvocation_chen : (countInvocation s).chen = s.chen := rfl
@[simp] theorem countInvocation_cmpaBuf : (countInvocation s).cmpaBuf = s.cmpaBuf := rfl
@[simp] theorem countInvocation_cmpbBuf : (countInvocation s).cmpbBuf = s.cmpbBuf := rfl
@[simp] theorem countInvocation_cmpaAct : (countInvocation s).cmpaAct = s.cmpaAct := rfl
@[simp] theorem countInvocation_cmpbAct : (countInvocation s).cmpbAct = s.cmpbAct := rfl
@[simp] theorem countInvocation_cnt : (countInvocation s).cnt = s.cnt := rfl
@[simp] theorem countInvocation_dir : (countInvocation s).dir = s.dir := rfl
@[simp] theorem countInvocation_ien : (countInvocation s).ien = s.ien := rfl
@[simp] theorem countInvocation_ifr : (countInvocation s).ifr = s.ifr := rfl
@[simp] theorem countInvocation_gie : (countInvocation s).gie = s.gie := rfl
@[simp] theorem countInvocation_ddr : (countInvocation s).ddr = s.ddr := rfl
@[simp] theorem countInvocation_fault : (countInvocation s).fault = s.fault := rfl
@[simp] theorem countInvocation_k : (countInvocation s).k = s.k + 1 := rfl
@[simp] theorem countInvocation_params : (countInvocation s).params = s.params := rfl
@[simp] theorem countInvocation_trace : (countInvocation s).trace = s.trace := rfl
@[simp] theorem countInvocation_fresh : (countInvocation s).fresh = s.fresh := rfl

@[simp] theorem setTop_fgpc (v : Nat) : (setTop v s).fgpc = s.fgpc := rfl
@[simp] theorem setTop_table (v : Nat) : (setTop v s).table = s.table := rfl
@[simp] theorem setTop_cursor (v : Nat) : (setTop v s).cursor = s.cursor := rfl
@[simp] theorem setTop_pending (v : Nat) : (setTop v s).pending = s.pending := rfl
@[simp] theorem setTop_tmask (v : Nat) : (setTop v s).tmask = s.tmask := rfl
@[simp] theorem setTop_mode (v : Nat) : (setTop v s).mode = s.mode := rfl
@[simp] theorem setTop_presc (v : Nat) : (setTop v s).presc = s.presc := rfl
@[simp] theorem setTop_top (v : Nat) : (setTop v s).top = v := rfl
@[simp] theorem setTop_chen (v : Nat) : (setTop v s).chen = s.chen := rfl
@[simp] theorem setTop_cmpaBuf (v : Nat) : (setTop v s).cmpaBuf = s.cmpaBuf := rfl
@[simp] theorem setTop_cmpbBuf (v : Nat) : (setTop v s).cmpbBuf = s.cmpbBuf := rfl
@[simp] theorem setTop_cmpaAct (v : Nat) : (setTop v s).cmpaAct = s.cmpaAct := rfl
@[simp] theorem setTop_cmpbAct (v : Nat) : (setTop v s).cmpbAct = s.cmpbAct := rfl
@[simp] theorem setTop_cnt (v : Nat) : (setTop v s).cnt = s.cnt := rfl
@[simp] theorem setTop_dir (v : Nat) : (setTop v s).dir = s.dir := rfl
@[simp] theorem setTop_ien (v : Nat) : (setTop v s).ien = s.ien := rfl
@[simp] theorem setTop_ifr (v : Nat) : (setTop v s).ifr = s.ifr := rfl
@[simp] theorem setTop_gie (v : Nat) : (setTop v s).gie = s.gie := rfl
@[simp] theorem setTop_ddr (v : Nat) : (setTop v s).ddr = s.ddr := rfl
@[simp] theorem setTop_fault (v : Nat) : (setTop v s).fault = s.fault := rfl
@[simp] theorem setTop_k (v : Nat) : (setTop v s).k = s.k := rfl
@[simp] theorem setTop_params (v : Nat) : (setTop v s).params = s.params := rfl
@[simp] theorem setTop_trace (v : Nat) : (setTop v s).trace = s.trace := rfl
@[simp] theorem setTop_fresh (v : Nat) : (setTop v s).fresh = s.fresh := rfl

@[simp] theorem setCnt_fgpc (v : Nat) : (setCnt v s).fgpc = s.fgpc := rfl
@[simp] theorem setCnt_table (v : Nat) : (setCnt v s).table = s.table := rfl
@[simp] theorem setCnt_cursor (v : Nat) : (setCnt v s).cursor = s.cursor := rfl
@[simp] theorem setCnt_pending (v : Nat) : (setCnt v s).pending = s.pending := rfl
@[simp] theorem setCnt_tmask (v : Nat) : (setCnt v s).tmask = s.tmask := rfl
@[simp] theorem setCnt_mode (v : Nat) : (setCnt v s).mode = s.mode := rfl
@[simp] theorem setCnt_presc (v : Nat) : (setCnt v s).presc = s.presc := rfl
@[simp] theorem setCnt_top (v : Nat) : (setCnt v s).top = s.top := rfl
@[simp] theorem setCnt_chen (v : Nat) : (setCnt v s).chen = s.chen := rfl
@[simp] theorem setCnt_cmpaBuf (v : Nat) : (setCnt v s).cmpaBuf = s.cmpaBuf := rfl
@[simp] theorem setCnt_cmpbBuf (v : Nat) : (setCnt v s).cmpbBuf = s.cmpbBuf := rfl
@[simp] theorem setCnt_cmpaAct (v : Nat) : (setCnt v s).cmpaAct = s.cmpaAct := rfl
@[simp] theorem setCnt_cmpbAct (v : Nat) : (setCnt v s).cmpbAct = s.cmpbAct := rfl
@[simp] theorem setCnt_cnt (v : Nat) : (setCnt v s).cnt = v := rfl
@[simp] theorem setCnt_dir (v : Nat) : (setCnt v s).dir = s.dir := rfl
@[simp] theorem setCnt_ien (v : Nat) : (setCnt v s).ien = s.ien := rfl
@[simp] theorem setCnt_ifr (v : Nat) : (setCnt v s).ifr = s.ifr := rfl
@[simp] theorem setCnt_gie (v : Nat) : (setCnt v s).gie = s.gie := rfl
@[simp] theorem setCnt_ddr (v : Nat) : (setCnt v s).ddr = s.ddr := rfl
@[simp] theorem setCnt_fault (v : Nat) : (setCnt v s).fault = s.fault := rfl
@[simp] theorem setCnt_k (v : Nat) : (setCnt v s).k = s.k := rfl
@[simp] theorem setCnt_params (v : Nat) : (setCnt v s).params = s.params := rfl
@[simp] theorem setCnt_trace (v : Nat) : (setCnt v s).trace = s.trace := rfl
@[simp] theorem setCnt_fresh (v : Nat) : (setCnt v s).fresh = s.fresh := rfl

@[simp] theorem setCntFree_fgpc : (setCntFree s).fgpc = s.fgpc := rfl
@[simp] theorem setCntFree_table : (setCntFree s).table = s.table := rfl
@[simp] theorem setCntFree_cursor : (setCntFree s).cursor = s.cursor := rfl
@[simp] theorem setCntFree_pending : (setCntFree s).pending = s.pending := rfl
@[simp] theorem setCntFree_tmask : (setCntFree s).tmask = s.tmask := rfl
@[simp] theorem setCntFree_mode : (setCntFree s).mode = s.mode := rfl
@[simp] theorem setCntFree_presc : (setCntFree s).presc = s.presc := rfl
@[simp] theorem setCntFree_top : (setCntFree s).top = s.top := rfl
@[simp] theorem setCntFree_chen : (setCntFree s).chen = s.chen := rfl
@[simp] theorem setCntFree_cmpaBuf : (setCntFree s).cmpaBuf = s.cmpaBuf := rfl
@[simp] theorem setCntFree_cmpbBuf : (setCntFree s).cmpbBuf = s.cmpbBuf := rfl
@[simp] theorem setCntFree_cmpaAct : (setCntFree s).cmpaAct = s.cmpaAct := rfl
@[simp] theorem setCntFree_cmpbAct : (setCntFree s).cmpbAct = s.cmpbAct := rfl
@[simp] theorem setCntFree_cnt : (setCntFree s).cnt = Config.freeCount s.fresh % 2 ^ s.params.cw := rfl
@[simp] theorem setCntFree_dir : (setCntFree s).dir = s.dir := rfl
@[simp] theorem setCntFree_ien : (setCntFree s).ien = s.ien := rfl
@[simp] theorem setCntFree_ifr : (setCntFree s).ifr = s.ifr := rfl
@[simp] theorem setCntFree_gie : (setCntFree s).gie = s.gie := rfl
@[simp] theorem setCntFree_ddr : (setCntFree s).ddr = s.ddr := rfl
@[simp] theorem setCntFree_fault : (setCntFree s).fault = s.fault := rfl
@[simp] theorem setCntFree_k : (setCntFree s).k = s.k := rfl
@[simp] theorem setCntFree_params : (setCntFree s).params = s.params := rfl
@[simp] theorem setCntFree_trace : (setCntFree s).trace = s.trace := rfl
@[simp] theorem setCntFree_fresh : (setCntFree s).fresh = s.fresh + 1 := rfl

@[simp] theorem loadBuffers_fgpc (v : Nat) : (loadBuffers v s).fgpc = s.fgpc := rfl
@[simp] theorem loadBuffers_table (v : Nat) : (loadBuffers v s).table = s.table := rfl
@[simp] theorem loadBuffers_cursor (v : Nat) : (loadBuffers v s).cursor = s.cursor := rfl
@[simp] theorem loadBuffers_pending (v : Nat) : (loadBuffers v s).pending = s.pending := rfl
@[simp] theorem loadBuffers_tmask (v : Nat) : (loadBuffers v s).tmask = s.tmask := rfl
@[simp] theorem loadBuffers_mode (v : Nat) : (loadBuffers v s).mode = s.mode := rfl
@[simp] theorem loadBuffers_presc (v : Nat) : (loadBuffers v s).presc = s.presc := rfl
@[simp] theorem loadBuffers_top (v : Nat) : (loadBuffers v s).top = s.top := rfl
@[simp] theorem loadBuffers_chen (v : Nat) : (loadBuffers v s).chen = s.chen := rfl
@[simp] theorem loadBuffers_cmpaBuf (v : Nat) : (loadBuffers v s).cmpaBuf = v := rfl
@[simp] theorem loadBuffers_cmpbBuf (v : Nat) : (loadBuffers v s).cmpbBuf = v := rfl
@[simp] theorem loadBuffers_cmpaAct (v : Nat) : (loadBuffers v s).cmpaAct = s.cmpaAct := rfl
@[simp] theorem loadBuffers_cmpbAct (v : Nat) : (loadBuffers v s).cmpbAct = s.cmpbAct := rfl
@[simp] theorem loadBuffers_cnt (v : Nat) : (loadBuffers v s).cnt = s.cnt := rfl
@[simp] theorem loadBuffers_dir (v : Nat) : (loadBuffers v s).dir = s.dir := rfl
@[simp] theorem loadBuffers_ien (v : Nat) : (loadBuffers v s).ien = s.ien := rfl
@[simp] theorem loadBuffers_ifr (v : Nat) : (loadBuffers v s).ifr = s.ifr := rfl
@[simp] theorem loadBuffers_gie (v : Nat) : (loadBuffers v s).gie = s.gie := rfl
@[simp] theorem loadBuffers_ddr (v : Nat) : (loadBuffers v s).ddr = s.ddr := rfl
@[simp] theorem loadBuffers_fault (v : Nat) : (loadBuffers v s).fault = s.fault := rfl
@[simp] theorem loadBuffers_k (v : Nat) : (loadBuffers v s).k = s.k := rfl
@[simp] theorem loadBuffers_params (v : Nat) : (loadBuffers v s).params = s.params := rfl
@[simp] theorem loadBuffers_trace (v : Nat) : (loadBuffers v s).trace = s.trace := rfl
@[simp] theorem loadBuffers_fresh (v : Nat) : (loadBuffers v s).fresh = s.fresh := rfl

@[simp] theorem latchBuffers_fgpc : (latchBuffers s).fgpc = s.fgpc := rfl
@[simp] theorem latchBuffers_table : (latchBuffers s).table = s.table := rfl
@[simp] theorem latchBuffers_cursor : (latchBuffers s).cursor = s.cursor := rfl
@[simp] theorem latchBuffers_pending : (latchBuffers s).pending = s.pending := rfl
@[simp] theorem latchBuffers_tmask : (latchBuffers s).tmask = s.tmask := rfl
@[simp] theorem latchBuffers_mode : (latchBuffers s).mode = s.mode := rfl
@[simp] theorem latchBuffers_presc : (latchBuffers s).presc = s.presc := rfl
@[simp] theorem latchBuffers_top : (latchBuffers s).top = s.top := rfl
@[simp] theorem latchBuffers_chen : (latchBuffers s).chen = s.chen := rfl
@[simp] theorem latchBuffers_cmpaBuf : (latchBuffers s).cmpaBuf = s.cmpaBuf := rfl
@[simp] theorem latchBuffers_cmpbBuf : (latchBuffers s).cmpbBuf = s.cmpbBuf := rfl
@[simp] theorem latchBuffers_cmpaAct : (latchBuffers s).cmpaAct = s.cmpaBuf := rfl
@[simp] theorem latchBuffers_cmpbAct : (latchBuffers s).cmpbAct = s.cmpbBuf := rfl
@[simp] theorem latchBuffers_cnt : (latchBuffers s).cnt = s.cnt := rfl
@[simp] theorem latchBuffers_dir : (latchBuffers s).dir = s.dir := rfl
@[simp] theorem latchBuffers_ien : (latchBuffers s).ien = s.ien := rfl
@[simp] theorem latchBuffers_ifr : (latchBuffers s).ifr = s.ifr := rfl
@[simp] theorem latchBuffers_gie : (latchBuffers s).gie = s.gie := rfl
@[simp] theorem latchBuffers_ddr : (latchBuffers s).ddr = s.ddr := rfl
@[simp] theorem latchBuffers_fault : (latchBuffers s).fault = s.fault := rfl
@[simp] theorem latchBuffers_k : (latchBuffers s).k = s.k := rfl
@[simp] theorem latchBuffers_params : (latchBuffers s).params = s.params := rfl
@[simp] theorem latchBuffers_trace : (latchBuffers s).trace = s.trace := rfl
@[simp] theorem latchBuffers_fresh : (latchBuffers s).fresh = s.fresh := rfl

@[simp] theorem resetState_fgpc : (resetState s).fgpc = 0 := rfl
@[simp] theorem resetState_table : (resetState s).table = [] := rfl
@[simp] theorem resetState_cursor : (resetState s).cursor = 0 := rfl
@[simp] theorem resetState_pending : (resetState s).pending = false := rfl
@[simp] theorem resetState_tmask : (resetState s).tmask = 0 := rfl
@[simp] theorem resetState_mode : (resetState s).mode = 0 := rfl
@[simp] theorem resetState_presc : (resetState s).presc = 0 := rfl
@[simp] theorem resetState_top : (resetState s).top = 0 := rfl
@[simp] theorem resetState_chen : (resetState s).chen = 0 := rfl
@[simp] theorem resetState_cmpaBuf : (resetState s).cmpaBuf = 0 := rfl
@[simp] theorem resetState_cmpbBuf : (resetState s).cmpbBuf = 0 := rfl
@[simp] theorem resetState_cmpaAct : (resetState s).cmpaAct = 0 := rfl
@[simp] theorem resetState_cmpbAct : (resetState s).cmpbAct = 0 := rfl
@[simp] theorem resetState_cnt : (resetState s).cnt = 0 := rfl
@[simp] theorem resetState_dir : (resetState s).dir = .up := rfl
@[simp] theorem resetState_ien : (resetState s).ien = 0 := rfl
@[simp] theorem resetState_ifr : (resetState s).ifr = 0 := rfl
@[simp] theorem resetState_gie : (resetState s).gie = false := rfl
@[simp] theorem resetState_ddr : (resetState s).ddr = 0 := rfl
@[simp] theorem resetState_fault : (resetState s).fault = none := rfl
@[simp] theorem resetState_k : (resetState s).k = 0 := rfl
@[simp] theorem resetState_params : (resetState s).params = s.params := rfl
@[simp] theorem resetState_trace : (resetState s).trace = s.trace := rfl
@[simp] theorem resetState_fresh : (resetState s).fresh = s.fresh := rfl

@[simp] theorem placeWord_fgpc (w : OpWord) : (placeWord w s).fgpc = s.fgpc := rfl
@[simp] theorem placeWord_table (w : OpWord) : (placeWord w s).table = s.table := rfl
@[simp] theorem placeWord_cursor (w : OpWord) : (placeWord w s).cursor = s.cursor := rfl
@[simp] theorem placeWord_pending (w : OpWord) : (placeWord w s).pending = s.pending := rfl
@[simp] theorem placeWord_tmask (w : OpWord) : (placeWord w s).tmask = s.tmask := rfl
@[simp] theorem placeWord_mode (w : OpWord) : (placeWord w s).mode = s.mode := rfl
@[simp] theorem placeWord_presc (w : OpWord) : (placeWord w s).presc = s.presc := rfl
@[simp] theorem placeWord_top (w : OpWord) : (placeWord w s).top = s.top := rfl
@[simp] theorem placeWord_chen (w : OpWord) : (placeWord w s).chen = s.chen := rfl
@[simp] theorem placeWord_cmpaBuf (w : OpWord) : (placeWord w s).cmpaBuf = s.cmpaBuf := rfl
@[simp] theorem placeWord_cmpbBuf (w : OpWord) : (placeWord w s).cmpbBuf = s.cmpbBuf := rfl
@[simp] theorem placeWord_cmpaAct (w : OpWord) : (placeWord w s).cmpaAct = s.cmpaAct := rfl
@[simp] theorem placeWord_cmpbAct (w : OpWord) : (placeWord w s).cmpbAct = s.cmpbAct := rfl
@[simp] theorem placeWord_cnt (w : OpWord) : (placeWord w s).cnt = s.cnt := rfl
@[simp] theorem placeWord_dir (w : OpWord) : (placeWord w s).dir = s.dir := rfl
@[simp] theorem placeWord_ien (w : OpWord) : (placeWord w s).ien = s.ien := rfl
@[simp] theorem placeWord_ifr (w : OpWord) : (placeWord w s).ifr = s.ifr := rfl
@[simp] theorem placeWord_gie (w : OpWord) : (placeWord w s).gie = s.gie := rfl
@[simp] theorem placeWord_ddr (w : OpWord) : (placeWord w s).ddr = s.ddr := rfl
@[simp] theorem placeWord_fault (w : OpWord) : (placeWord w s).fault = s.fault := rfl
@[simp] theorem placeWord_k (w : OpWord) : (placeWord w s).k = s.k := rfl
@[simp] theorem placeWord_params (w : OpWord) : (placeWord w s).params = s.params := rfl
@[simp] theorem placeWord_trace (w : OpWord) : (placeWord w s).trace = w :: s.trace := rfl
@[simp] theorem placeWord_fresh (w : OpWord) : (placeWord w s).fresh = s.fresh := rfl

end

end Sys2Proof.Machine
end

