-- ==== Sys2Proof/Laws/Ops.lean ====
section
/-! SUPPORT. For each shared operation, what it can do, said once: provers cite these and do not unfold it. -/

namespace Sys2Proof.Machine

/-! ### Parameters -/

theorem wellFormed_iff {p : Params} : p.wellFormed = true ↔ p.Clauses := by
  simp only [Params.wellFormed, decide_eq_true_eq]

theorem wellFormed_pos_m {p : Params} (h : p.wellFormed = true) : 1 ≤ p.m := (wellFormed_iff.mp h).2.2.2.1.1

theorem wellFormed_fits_m {p : Params} (h : p.wellFormed = true) : p.m < 2 ^ p.cw := (wellFormed_iff.mp h).2.2.2.1.2

theorem wellFormed_two_le_h {p : Params} (h : p.wellFormed = true) : 2 ≤ p.h := by
  have := (wellFormed_iff.mp h).2.1.2
  simp only [Params.h]
  omega

theorem wellFormed_h_fits {p : Params} (h : p.wellFormed = true) : p.h + 3 ≤ 2 ^ p.curw := (wellFormed_iff.mp h).2.2.2.2.1

theorem wellFormed_length {p : Params} (h : p.wellFormed = true) : p.table.length = p.h := (wellFormed_iff.mp h).2.2.2.2.2.1

/-- Below `H`, `entry` is the entry that `TABLE` lists. -/
theorem wellFormed_entry_eq {p : Params} (h : p.wellFormed = true) {i : Nat} (hi : i < p.h) :
    p.table[i]? = some (p.entry i) := by
  have hl : i < p.table.length := by rw [wellFormed_length h]; exact hi
  simp [Params.entry, List.getD, hl]

/-- Every entry fits `CW` bits (R62). -/
theorem wellFormed_entry_fits {p : Params} (h : p.wellFormed = true) (i : Nat) : p.entry i < 2 ^ p.cw := by
  simp only [Params.entry, List.getD]
  cases hi : p.table[i]? with
  | none => simp
  | some v => exact (wellFormed_iff.mp h).2.2.2.2.2.2 v (List.mem_of_getElem? hi)

/-! ### Guards -/

theorem ifWellFormed_next {s t : State} {a : Result} :
    ifWellFormed s a = .next t ↔ s.params.wellFormed = true ∧ a = .next t := by
  unfold ifWellFormed
  cases s.params.wellFormed <;> simp

theorem ifWellFormed_of {s : State} (h : s.params.wellFormed = true) (a : Result) : ifWellFormed s a = a := if_pos h

theorem ifWellFormed_not {s : State} (h : ¬s.params.wellFormed = true) (a : Result) :
    ifWellFormed s a = .refused .illFormedParameters := if_neg h

theorem ifEnabled_next {i : Instr} {c : Bool} {a : Result} {t : State} :
    ifEnabled i c a = .next t ↔ c = true ∧ a = .next t := by
  unfold ifEnabled
  split <;> simp_all

@[simp] theorem ifEnabled_true (i : Instr) (a : Result) : ifEnabled i true a = a := rfl

@[simp] theorem ifEnabled_false (i : Instr) (a : Result) : ifEnabled i false a = .refused (.notEnabled i.mnemonic) := rfl

theorem ovfEnabled_iff {s : State} :
    ovfEnabled s = true ↔ s.fault = none ∧ s.ifrOvf = true ∧ s.ienOvf = true ∧ s.gie = true := by
  simp [ovfEnabled, and_assoc]

theorem mayRun_iff {s : State} : mayRun s = true ↔ s.fault = none ∧ ovfEnabled s = false := by
  simp [mayRun]

/-! ### The table -/

/-- What `TableRead` can answer (R61). -/
theorem tableRead_ok {i v : Nat} {s : State} :
    tableRead i s = .ok v ↔ i < s.params.h ∧ s.table.read i = some v := by
  unfold tableRead
  split
  · simp; omega
  · split <;> simp_all

/-- When `TableRead` faults, and how (R61). -/
theorem tableRead_error {i : Nat} {f : Fault} {s : State} :
    tableRead i s = .error f ↔
      (s.params.h ≤ i ∧ f = .indexOutOfRange) ∨
      (i < s.params.h ∧ s.table.read i = none ∧ f = .unwrittenTableRead) := by
  unfold tableRead
  split
  next h => simp [h, Nat.not_lt.mpr h, eq_comm]
  next h =>
    have h' : i < s.params.h := by omega
    cases s.table.read i <;> simp [h, h', eq_comm]

/-! ### The counter -/

/-- `countUp` within the width, which R133 says is always (R131). -/
theorem countUp_of_fits {s : State} (h : fits s.params.cw (s.cnt + 1)) : countUp s = setCnt (s.cnt + 1) s := if_pos h

theorem countUp_of_not {s : State} (h : ¬fits s.params.cw (s.cnt + 1)) : countUp s = setCntFree s := if_neg h

/-- `countDown` above 0, which R133 says is always (R131). -/
theorem countDown_of_pos {s : State} (h : 0 < s.cnt) : countDown s = setCnt (s.cnt - 1) s := if_pos h

theorem countDown_of_zero {s : State} (h : s.cnt = 0) : countDown s = setCntFree s := if_neg (by omega)

/-- `countUp` changes `CNT` and, where the sum does not fit, the number of free values used. -/
theorem countUp_frame (s : State) : countUp s = { s with cnt := (countUp s).cnt, fresh := (countUp s).fresh } := by
  unfold countUp setCnt setCntFree
  split <;> rfl

theorem countDown_frame (s : State) : countDown s = { s with cnt := (countDown s).cnt, fresh := (countDown s).fresh } := by
  unfold countDown setCnt setCntFree
  split <;> rfl

/-- A count keeps `CNT` in its width. -/
theorem countUp_fits (s : State) : (countUp s).cnt < 2 ^ s.params.cw := by
  unfold countUp
  split
  · assumption
  · exact Nat.mod_lt _ (Nat.two_pow_pos _)

theorem countDown_fits {s : State} (h : s.cnt < 2 ^ s.params.cw) : (countDown s).cnt < 2 ^ s.params.cw := by
  unfold countDown
  split
  · simp; omega
  · exact Nat.mod_lt _ (Nat.two_pow_pos _)

/-- What an arrival at a boundary does (R135, R136): the flag at BOTTOM, the latch at a boundary of `LATCH_POINT`. -/
theorem arriveAt_eq (b : Boundary) (s : State) :
    arriveAt b s =
      { s with
        ifr := if b = .bottom then 1 else s.ifr
        cmpaAct := if latchesAt s.params.latch b = true then s.cmpaBuf else s.cmpaAct
        cmpbAct := if latchesAt s.params.latch b = true then s.cmpbBuf else s.cmpbAct } := by
  cases b <;> cases h : s.params.latch <;> simp [arriveAt, latchesAt, latchBuffers, setIfrOvf, h]

/-- `LATCH_POINT` is not empty (R12). -/
theorem latchesAt_some (l : LatchPoint) : latchesAt l .bottom = true ∨ latchesAt l .top = true := by
  cases l <;> simp [latchesAt]

/-! ### The handler's rows -/

/-- Which row fires, and what stands after its action (R152, R153, R154, R157). -/
theorem afterRow_cases (s : State) :
    (s.pending = true ∧ handlerRow s = .flip ∧
      afterRow s = { s with ifr := 0, chen := (s.chenVal ^^^ s.tmaskVal) &&& 0x03, pending := false }) ∨
    (s.pending = false ∧ s.params.h ≤ s.cursor ∧ handlerRow s = .wrap ∧
      afterRow s = { s with ifr := 0, cursor := 0, pending := true }) ∨
    (s.pending = false ∧ s.cursor < s.params.h ∧ handlerRow s = .none ∧ afterRow s = { s with ifr := 0 }) := by
  by_cases hp : s.pending = true
  · exact .inl ⟨hp, by simp [handlerRow, hp], by simp [afterRow, handlerRow, hp]; rfl⟩
  · have hp' : s.pending = false := by simpa using hp
    by_cases hc : s.params.h ≤ s.cursor
    · exact .inr (.inl ⟨hp', hc, by simp [handlerRow, hp', hc], by simp [afterRow, handlerRow, hp', hc]; rfl⟩)
    · have hr : handlerRow s = .none := by simp [handlerRow, hp', hc]
      exact .inr (.inr ⟨hp', by omega, hr, by rw [afterRow, hr]; rfl⟩)

/-- What the row's action leaves alone. -/
theorem afterRow_frame (s : State) :
    afterRow s =
      { s with ifr := 0, chen := (afterRow s).chen, pending := (afterRow s).pending, cursor := (afterRow s).cursor } := by
  rcases afterRow_cases s with ⟨_, _, h⟩ | ⟨_, _, _, h⟩ | ⟨_, _, _, h⟩ <;> rw [h]

/-- What an invocation can do (R151, R171 (c)): it loads, or it takes the fault of its load and changes nothing else. -/
theorem handlerInvocation_cases (s : State) :
    (∃ v, tableRead (afterRow s).cursor (afterRow s) = .ok v ∧
      handlerInvocation s =
        { afterRow s with cmpaBuf := v, cmpbBuf := v, cursor := (afterRow s).cursor + 1, k := s.k + 1 }) ∨
    (∃ f, tableRead (afterRow s).cursor (afterRow s) = .error f ∧ handlerInvocation s = { s with fault := some f }) := by
  have hk : (afterRow s).k = s.k := by rw [afterRow_frame]
  cases h : tableRead (afterRow s).cursor (afterRow s) with
  | ok v => exact .inl ⟨v, rfl, by simp [handlerInvocation, ovfIndex, h, leaveHandler, countInvocation, setCursor, loadBuffers, hk]⟩
  | error f => exact .inr ⟨f, rfl, by simp [handlerInvocation, ovfIndex, h, takeFault]⟩

end Sys2Proof.Machine
end

