-- ==== Sys2Proof/Laws/Exec.lean ====
section
/-! SUPPORT. What each operation can do, said once: when it answers a next state, and which one. -/

namespace Sys2Proof.Machine

/-! ### When each operation is enabled (R176) -/

theorem enabledTgen_iff {i : Nat} {s : State} :
    enabledTgen i s = true ↔ mayRun s = true ∧ s.fgpc = i ∧ i < s.params.h := by
  simp only [enabledTgen, Bool.and_eq_true, decide_eq_true_eq, and_assoc]
  rfl

theorem enabledCfg_iff {s : State} : enabledCfg s = true ↔ mayRun s = true ∧ s.fgpc = s.params.h := by
  simp only [enabledCfg, Bool.and_eq_true, decide_eq_true_eq]

theorem enabledSei_iff {s : State} : enabledSei s = true ↔ mayRun s = true ∧ s.fgpc = s.params.h + 1 := by
  simp only [enabledSei, Bool.and_eq_true, decide_eq_true_eq]

theorem enabledIdle_iff {s : State} : enabledIdle s = true ↔ mayRun s = true ∧ s.fgpc = s.params.h + 2 := by
  simp only [enabledIdle, Bool.and_eq_true, decide_eq_true_eq]

theorem enabledTick_iff {s : State} : enabledTick s = true ↔ mayRun s = true ∧ timerReserved s = false := by
  simp only [enabledTick, Bool.and_eq_true, Bool.not_eq_true']

/-- `TICK` has a step exactly when the counter is stopped or both fields have their one defined setting (R132). -/
theorem timerReserved_eq_false {s : State} :
    timerReserved s = false ↔ s.wgm = 0 ∨ s.cs = 0 ∨ (s.wgm = 1 ∧ s.cs = 1) := by
  simp only [timerReserved, timerStopped, Bool.and_eq_false_iff, Bool.not_eq_false', Bool.or_eq_true,
    Bool.and_eq_true, decide_eq_true_eq, or_assoc]

/-! ### What each operation answers -/

theorem next_eq_comm {t u : State} : (Host.Outcome.next u : Result) = .next t ↔ t = u :=
  ⟨fun h => by injection h with h; exact h.symm, fun h => by rw [h]⟩

theorem execReset_next {s t : State} :
    exec .reset s = .next t ↔ s.params.wellFormed = true ∧ t = resetState s := by
  show ifWellFormed s _ = _ ↔ _
  rw [ifWellFormed_next, next_eq_comm]

theorem execTgen_next {i : Nat} {s t : State} :
    exec (.tgen i) s = .next t ↔
      s.params.wellFormed = true ∧ mayRun s = true ∧ s.fgpc = i ∧ i < s.params.h ∧
      t = { s with table := s.table.write i (s.params.entry i), fgpc := s.fgpc + 1 } := by
  show ifWellFormed s _ = _ ↔ _
  rw [ifWellFormed_next, ifEnabled_next, next_eq_comm, enabledTgen_iff]
  simp only [and_assoc]
  rfl

/-- What the configuration contract writes (R117). -/
theorem configure_eq (s : State) :
    configure s =
      { s with
        mode := 1, top := s.params.m, chen := 0b01, tmask := 0b11, presc := 1, ien := 1, ddr := 0b11
        fgpc := s.fgpc + 1 } := by
  simp [configure, advanceFgpc, setDdr, setIenOvf, setCs, setTmask, setChen, setTop, setWgm]

theorem execCfg_next {s t : State} :
    exec .cfg s = .next t ↔
      s.params.wellFormed = true ∧ mayRun s = true ∧ s.fgpc = s.params.h ∧ t = configure s := by
  show ifWellFormed s _ = _ ↔ _
  rw [ifWellFormed_next, ifEnabled_next, next_eq_comm, enabledCfg_iff]
  simp only [and_assoc]

theorem execSei_next {s t : State} :
    exec .sei s = .next t ↔
      s.params.wellFormed = true ∧ mayRun s = true ∧ s.fgpc = s.params.h + 1 ∧
      t = { s with gie := true, fgpc := s.fgpc + 1 } := by
  show ifWellFormed s _ = _ ↔ _
  rw [ifWellFormed_next, ifEnabled_next, next_eq_comm, enabledSei_iff]
  simp only [and_assoc]
  rfl

theorem execIdle_next {s t : State} :
    exec .idle s = .next t ↔
      s.params.wellFormed = true ∧ mayRun s = true ∧ s.fgpc = s.params.h + 2 ∧ t = s := by
  show ifWellFormed s _ = _ ↔ _
  rw [ifWellFormed_next, ifEnabled_next, next_eq_comm, enabledIdle_iff]
  simp only [and_assoc]

theorem execTick_next {s t : State} :
    exec .tick s = .next t ↔
      s.params.wellFormed = true ∧ mayRun s = true ∧ timerReserved s = false ∧ t = clockTick s := by
  show ifWellFormed s _ = _ ↔ _
  rw [ifWellFormed_next, ifEnabled_next]
  cases timerReserved s with
  | false => simp only [if_false, Bool.false_eq_true, next_eq_comm, true_and]
  | true => simp

theorem execOvf_next {s t : State} :
    exec .ovf s = .next t ↔ s.params.wellFormed = true ∧ ovfEnabled s = true ∧ t = handlerInvocation s := by
  show ifWellFormed s _ = _ ↔ _
  rw [ifWellFormed_next, ifEnabled_next, next_eq_comm]

/-- What a tick can do (R131): nothing while stopped; else a count and, at a boundary, an arrival. -/
theorem clockTick_cases (s : State) :
    (timerStopped s = true ∧ clockTick s = s) ∨
    (timerStopped s = false ∧ s.dir = .up ∧ (countUp s).cnt = s.top ∧
      clockTick s = arriveAt .top { countUp s with dir := .down }) ∨
    (timerStopped s = false ∧ s.dir = .up ∧ (countUp s).cnt ≠ s.top ∧ clockTick s = countUp s) ∨
    (timerStopped s = false ∧ s.dir = .down ∧ (countDown s).cnt = 0 ∧
      clockTick s = arriveAt .bottom { countDown s with dir := .up }) ∨
    (timerStopped s = false ∧ s.dir = .down ∧ (countDown s).cnt ≠ 0 ∧ clockTick s = countDown s) := by
  have hu : (countUp s).top = s.top := by rw [countUp_frame]
  cases hs : timerStopped s with
  | true => exact .inl ⟨rfl, by simp [clockTick, hs]⟩
  | false =>
    cases hd : s.dir with
    | up =>
      by_cases h : (countUp s).cnt = s.top
      · exact .inr (.inl ⟨rfl, rfl, h, by simp [clockTick, hs, hd, tickUp, hu, h, setDir]⟩)
      · exact .inr (.inr (.inl ⟨rfl, rfl, h, by simp [clockTick, hs, hd, tickUp, hu, h]⟩))
    | down =>
      by_cases h : (countDown s).cnt = 0
      · exact .inr (.inr (.inr (.inl ⟨rfl, rfl, h, by simp [clockTick, hs, hd, tickDown, h, setDir]⟩)))
      · exact .inr (.inr (.inr (.inr ⟨rfl, rfl, h, by simp [clockTick, hs, hd, tickDown, h]⟩)))

/-- What a tick leaves alone. -/
theorem clockTick_frame (s : State) :
    clockTick s =
      { s with
        cnt := (clockTick s).cnt, dir := (clockTick s).dir, ifr := (clockTick s).ifr
        cmpaAct := (clockTick s).cmpaAct, cmpbAct := (clockTick s).cmpbAct, fresh := (clockTick s).fresh } := by
  rcases clockTick_cases s with ⟨_, h⟩ | ⟨_, _, _, h⟩ | ⟨_, _, _, h⟩ | ⟨_, _, _, h⟩ | ⟨_, _, _, h⟩ <;> rw [h]
  · rw [arriveAt_eq, countUp_frame]
  · rw [countUp_frame]
  · rw [arriveAt_eq, countDown_frame]
  · rw [countDown_frame]

/-- A step performs an operation: the word at the head of the trace, or with no word left one of the enabled ones. -/
theorem step_next {s t : State} (h : step s = .next t) :
    (∃ w rest i, s.trace = w :: rest ∧ decode w = .op i ∧ exec i { s with trace := rest } = .next t) ∨
    (s.trace = [] ∧ s.params.wellFormed = true ∧ exec (chooseOp s) { s with fresh := s.fresh + 1 } = .next t) := by
  unfold step nextOp at h
  cases ht : s.trace with
  | nil =>
    rw [ht] at h
    by_cases hp : s.params.wellFormed = true
    · simp only [hp, if_true] at h
      exact .inr ⟨rfl, hp, h⟩
    · simp [hp] at h
  | cons w rest =>
    rw [ht] at h
    cases hd : decode w with
    | op i =>
      simp only [hd] at h
      exact .inl ⟨w, rest, i, rfl, hd, h⟩
    | invalid why => simp [hd] at h

/-- The free choice takes an enabled operation (R176). -/
theorem chooseOp_enabled (s : State) : enabled s (chooseOp s) = true := by
  have hne : enabledOps s ≠ [] := by
    intro h
    have : Instr.reset ∈ enabledOps s := by simp [enabledOps, enabled]
    rw [h] at this
    simp at this
  have hlt : Config.schedulerChoice s.fresh % (enabledOps s).length < (enabledOps s).length :=
    Nat.mod_lt _ (List.length_pos_iff.mpr hne)
  have hm : chooseOp s ∈ enabledOps s := by
    unfold chooseOp
    rw [List.getD_eq_getElem _ _ hlt]
    exact List.getElem_mem hlt
  exact (List.mem_filter.mp hm).2

end Sys2Proof.Machine
end

