-- ==== Sys2Proof/Laws/PerInstr.lean ====
section
/-! SUPPORT. What holds of every operation as syntax, one lemma for each constructor: the `zero` field of an operation
word is 0 (spec/30_encoding.md R81), and the word's code is the operation's (R82). -/

namespace Sys2Proof.Laws

/-- The three fields of an operation's word are the operation's code, 0, and its index (R81, R82). -/
def WordFields.Statement (i : Instr) : Prop :=
  opcField (encode i) = opcodeOf i ∧ zeroField (encode i) = 0 ∧ idxField (encode i) = indexOf i

/-- Taking a word built of three fields apart again. -/
theorem fields_of_append (opc : BitVec 4) (idx : BitVec 16) :
    opcField (opc ++ 0#12 ++ idx) = opc ∧ zeroField (opc ++ 0#12 ++ idx) = 0 ∧ idxField (opc ++ 0#12 ++ idx) = idx := by
  refine ⟨?_, ?_, ?_⟩
  all_goals
    apply BitVec.eq_of_getLsbD_eq
    intro i hi
    simp only [opcField, zeroField, idxField, BitVec.getLsbD_extractLsb', BitVec.getLsbD_append]
    grind

theorem WordFields.reset : WordFields.Statement .reset := fields_of_append _ _
theorem WordFields.tgen (i : Nat) : WordFields.Statement (.tgen i) := fields_of_append _ _
theorem WordFields.cfg : WordFields.Statement .cfg := fields_of_append _ _
theorem WordFields.sei : WordFields.Statement .sei := fields_of_append _ _
theorem WordFields.idle : WordFields.Statement .idle := fields_of_append _ _
theorem WordFields.tick : WordFields.Statement .tick := fields_of_append _ _
theorem WordFields.ovf : WordFields.Statement .ovf := fields_of_append _ _

end Sys2Proof.Laws
end

