-- ==== Sys2Proof/Laws/Schedule.lean ====
section
/-! SUPPORT. What one operation of a run can do, said once, and that no operation changes the parameters. -/

namespace Sys2Proof.Machine

/-- The parameters are written by no operation (R9, R41, R190). -/
theorem exec_params {i : Instr} {s t : State} (h : exec i s = .next t) : t.params = s.params := by
  cases i with
  | reset => rw [(execReset_next.mp h).2]; rfl
  | tgen i => rw [(execTgen_next.mp h).2.2.2.2]
  | cfg => rw [(execCfg_next.mp h).2.2.2, configure_eq]
  | sei => rw [(execSei_next.mp h).2.2.2]
  | idle => rw [(execIdle_next.mp h).2.2.2]
  | tick => rw [(execTick_next.mp h).2.2.2, clockTick_frame]
  | ovf =>
    rw [(execOvf_next.mp h).2.2]
    rcases handlerInvocation_cases s with ⟨v, _, h'⟩ | ⟨f, _, h'⟩ <;> rw [h']
    rw [afterRow_frame]

/-- A run that has stopped stays as it is. -/
theorem perform_of_stopped {i : Instr} {r : Run} {x : Stop} (h : r.stopped = some x) : perform i r = r := by
  simp [perform, h]

/-- An operation with a next state is performed and seen. -/
theorem perform_of_next {i : Instr} {r : Run} {t : State} (hs : r.stopped = none) (h : exec i r.state = .next t) :
    perform i r = { r with state := t, performed := r.performed ++ [i], seen := r.seen ++ observe i r.state t } := by
  simp [perform, hs, h]

/-- A refused operation stops the run and changes nothing else (R88). -/
theorem perform_of_refused {i : Instr} {r : Run} {x : Refusal} (hs : r.stopped = none) (h : exec i r.state = .refused x) :
    perform i r = { r with stopped := some (.refused x) } := by
  simp [perform, hs, h]

@[simp] theorem perform_params (i : Instr) (r : Run) : (perform i r).state.params = r.state.params := by
  unfold perform
  split
  · rfl
  · split
    · exact exec_params ‹_›
    · rfl
    · rfl

end Sys2Proof.Machine
end

