-- ==== Sys2Proof/Tests/Slice0.lean ====
section
/-! SUPPORT. Tests, their expected results taken from spec/95_test_vectors.md (sections named in the comments), and for
each statement with hypotheses a witness that meets them. -/

namespace Sys2Proof.Tests

open Sys2Proof.Machine

set_option synthInstance.maxSize 1000

/-! ### States -/

/-- Program P1's parameters, `(60, 5, 4)`: `H = 2`, `M = 3` (section 3.1). -/
def p1 : Params := { fClk := 60, fOut := 5, n := 4, cw := 16, curw := 16, latch := .bottom, table := [0, 3] }

/-- Program P2's parameters, `(200, 5, 8)`: `H = 4`, `M = 5` (section 3.2). -/
def p2 : Params := { fClk := 200, fOut := 5, n := 8, cw := 16, curw := 16, latch := .bottom, table := [0, 4, 5, 4] }

/-- P1 with its table complete and nothing configured. -/
def tabled : State := { startState p1 with fgpc := 2, table := [(0, 0), (1, 3)] }

/-- P1 right after `CFG`. -/
def configured : State :=
  { tabled with fgpc := 3, mode := 1, presc := 1, top := 3, chen := 1, tmask := 3, ien := 1, ddr := 3 }

/-- P1 right after `SEI`. -/
def playing : State := { configured with fgpc := 4, gie := true }

/-- P1 just before tick 18: a latch of the value 3, and a request for the wrap. -/
def beforeTick18 : State := { playing with cnt := 1, dir := .down, cmpaBuf := 3, cmpbBuf := 3, cursor := 2, k := 2 }

/-- P1 after tick 18: the wrap's request. -/
def beforeWrap : State := { beforeTick18 with cnt := 0, dir := .up, ifr := 1, cmpaAct := 3, cmpbAct := 3 }

/-- P1 after tick 24: the flip's request. -/
def beforeFlip : State := { playing with ifr := 1, cursor := 1, pending := true, k := 3 }

/-- P1 after tick 6: the first request. -/
def beforeFirst : State := { playing with ifr := 1 }

/-- The next state of an outcome. -/
def nextOf : Result → Option State
  | .next t => some t
  | .fault _ => none
  | .refused _ => none

/-- The refusal of an outcome. -/
def refusalOf : Result → Option Refusal
  | .next _ => none
  | .fault _ => none
  | .refused r => some r

/-! ### Operation words, bit by bit from R81 and R82: code, 12 zero bits, 16 index bits -/

theorem test_word_reset : decode 0b00000000000000000000000000000000#32 = .op .reset := by decide
theorem test_word_tgen : decode 0b00010000000000000000000001100011#32 = .op (.tgen 99) := by decide
theorem test_word_tgen_all_ones : decode 0b00010000000000001111111111111111#32 = .op (.tgen 65535) := by decide
theorem test_word_cfg : decode 0b00100000000000000000000000000000#32 = .op .cfg := by decide
theorem test_word_sei : decode 0b00110000000000000000000000000000#32 = .op .sei := by decide
theorem test_word_idle : decode 0b01000000000000000000000000000000#32 = .op .idle := by decide
theorem test_word_tick : decode 0b01010000000000000000000000000000#32 = .op .tick := by decide
theorem test_word_ovf : decode 0b01100000000000000000000000000000#32 = .op .ovf := by decide

/-- Section 2.6: the words listed as invalid. -/
theorem test_invalid_words :
    [0x70000000#32, 0xF0000000#32, 0x20000001#32, 0x10010000#32, 0x00010000#32, 0x5000000A#32, 0xFFFFFFFF#32].map decode =
      [.invalid .reservedCode, .invalid .reservedCode, .invalid .indexNotZero, .invalid .zeroFieldNotZero,
        .invalid .zeroFieldNotZero, .invalid .indexNotZero, .invalid .reservedCode] := by decide

theorem test_encode_tgen : encode (.tgen 99) = 0x10000063#32 := by decide

/-- The one check of well-formedness: an index that its 16-bit field cannot hold is refused. -/
theorem test_index_too_wide : Instr.wellFormed (.tgen 65536) = false := by decide
theorem test_index_widest : Instr.wellFormed (.tgen 65535) = true := by decide

/-- Section 2.6, pseudo-operations: what `STARTUP; PERIOD; RUN 2` stands for with P1's parameters. -/
theorem test_text :
    textOperations p1 "TGEN 1; TICK 2 # two clocks\nSTARTUP".toList =
      some [.tgen 1, .tick, .tick, .tgen 0, .tgen 1, .cfg, .sei] := by decide +kernel

/-! ### Parameters (section 2.7) and computed tables (section 2.1) -/

theorem test_reference_well_formed : Config.reference.wellFormed = true := by decide +kernel
theorem test_odd_steps : ({ p1 with fClk := 16000000, fOut := 50, n := 201 } : Params).wellFormed = false := by decide
theorem test_h_is_one : ({ p1 with fClk := 16000000, fOut := 50, n := 2 } : Params).wellFormed = false := by decide
theorem test_not_a_divisor : ({ p1 with fClk := 16000000, fOut := 60, n := 200 } : Params).wellFormed = false := by decide
theorem test_m_too_wide : ({ p1 with fClk := 16000000, fOut := 50 } : Params).wellFormed = false := by decide
theorem test_m_with_cw_17 : ({ p1 with fClk := 16000000, fOut := 50, cw := 17 } : Params).wellFormed = true := by decide

theorem test_table_ties : (List.range 6).map (texact 12 7) = [0, 4, 6, 7, 6, 4] := by decide +kernel
theorem test_table_plateau :
    (List.range 12).map (texact 24 3) = [0, 1, 2, 2, 3, 3, 3, 3, 3, 2, 2, 1] := by decide +kernel
theorem test_table_reference : [1, 25, 50, 99].map (texact 200 1600) = [50, 1131, 1600, 50] := by decide +kernel

/-! ### One step of each operation -/

/-- Section 2.5: `RESET` from the end state of P1. -/
theorem test_reset : nextOf (exec .reset { beforeFlip with k := 7, fault := some .indexOutOfRange }) = some (startState p1) := by
  decide

/-- Section 2.2, first row: P1's second entry. -/
theorem test_tgen : nextOf (exec (.tgen 1) { startState p1 with fgpc := 1, table := [(0, 0)] }) = some tabled := by decide

/-- Section 2.1: out of order. -/
theorem test_tgen_out_of_order : refusalOf (exec (.tgen 1) (startState p1)) = some (.notEnabled "TGEN") := by decide

/-- Section 2.2, first row. -/
theorem test_cfg : nextOf (exec .cfg tabled) = some configured := by decide

/-- Section 2.2: a second `CFG`. -/
theorem test_cfg_twice : refusalOf (exec .cfg configured) = some (.notEnabled "CFG") := by decide

/-- Section 2.2: `SEI` with a request pending. -/
theorem test_sei_then_pending :
    (nextOf (exec .sei { configured with ifr := 1 })).map ovfEnabled = some true := by decide

/-- Section 2.2: `SEI` before `CFG`. -/
theorem test_sei_too_early : refusalOf (exec .sei tabled) = some (.notEnabled "SEI") := by decide

theorem test_idle : nextOf (exec .idle playing) = some playing := by decide

/-- Section 2.2: `OVF` goes first. -/
theorem test_idle_pending : refusalOf (exec .idle beforeFirst) = some (.notEnabled "IDLE") := by decide

/-- Section 3.1, tick 18. -/
theorem test_tick_bottom : nextOf (exec .tick beforeTick18) = some beforeWrap := by decide

/-- Section 2.3, single ticks: TOP with `LATCH_POINT = {TOP}`, buffers 2 (the sets are written out in the spec). -/
theorem test_tick_top_latch :
    (nextOf (exec .tick { playing with cnt := 2, cmpaBuf := 2, cmpbBuf := 2, params := { p1 with latch := .top } })).map
      (fun t => (t.cnt, t.dir, t.cmpaAct, t.ifrOvf)) = some (3, .down, 2, false) := by decide

/-- Section 3.1, `OVF` after tick 18: row 2. -/
theorem test_ovf_wrap :
    (nextOf (exec .ovf beforeWrap)).map (fun t => (t.ifr, t.cmpaBuf, t.cmpaAct, t.cursor, t.pending, t.k)) =
      some (0, 0, 3, 1, true, 3) := by decide

/-- Section 3.1, `OVF` after tick 24: row 1. -/
theorem test_ovf_flip :
    (nextOf (exec .ovf beforeFlip)).map (fun t => (t.chen, t.cmpbBuf, t.cursor, t.pending, t.k)) =
      some (2, 3, 2, false, 4) := by decide

/-- Section 2.4, states not reachable: the fault changes nothing but the record of it. -/
theorem test_ovf_fault :
    nextOf (exec .ovf { beforeFlip with cursor := 4 }) =
      some { beforeFlip with cursor := 4, fault := some .indexOutOfRange } := by decide

/-- Section 2.3, pins. -/
theorem test_pins_active_a : pins { playing with cnt := 2, cmpaAct := 3, cmpbAct := 3 } = (.high, .low) := by decide
theorem test_pins_undriven : pins { playing with ddr := 1, cmpaAct := 3, cmpbAct := 3 } = (.high, .z) := by decide

/-! ### The host's word is performed as the first step after reset -/

theorem test_fetch_reset : nextOf (step (State.reset.withFetchWord 32 0x00000000)) = some State.reset := by decide +kernel
theorem test_fetch_tgen :
    (nextOf (step (State.reset.withFetchWord 32 0x10000032))).map (fun t => (t.table, t.fgpc)) = some ([(50, 1600)], 51) := by
  decide +kernel
theorem test_fetch_cfg :
    (nextOf (step (State.reset.withFetchWord 32 0x20000000))).map (fun t => (t.top, t.fgpc)) = some (1600, 101) := by
  decide +kernel
theorem test_fetch_sei : (nextOf (step (State.reset.withFetchWord 32 0x30000000))).map State.gie = some true := by
  decide +kernel
theorem test_fetch_idle : (nextOf (step (State.reset.withFetchWord 32 0x40000000))).isSome = true := by decide +kernel
theorem test_fetch_tick : nextOf (step (State.reset.withFetchWord 32 0x50000000)) = some State.reset := by decide +kernel
theorem test_fetch_ovf :
    (nextOf (step (State.reset.withFetchWord 32 0x60000000))).map State.fault = some (some .unwrittenTableRead) := by
  decide +kernel

/-- Section 2.6, `STARTUP; PERIOD` as a schedule: `OVF` is taken after tick 6. -/
theorem test_schedule :
    (runSchedule (pseudoStartup p1 ++ pseudoPeriod p1) (startState p1)).performed =
      [.tgen 0, .tgen 1, .cfg, .sei] ++ List.replicate 6 .tick ++ [.ovf] := by decide +kernel

/-! ### Witnesses: each statement's hypotheses are met together -/

theorem witness_DecodeAndEncodeAreInverse :
    (Instr.tgen 65535).wellFormed = true ∧ decode 0x1000FFFF#32 = .op (.tgen 65535) ∧
    decode 0x10010000#32 = .invalid .zeroFieldNotZero ∧ (takePending (Run.start beforeFirst)).stopped = none ∧
    ({ playing with trace := [0x10010000#32] } : State).trace = 0x10010000#32 :: [] := by decide

theorem witness_OperationWordsOfTheTable :
    (0 < 65536 ∧ 65535 < 65536) ∧ 7 ≤ (0x70000000#32 >>> 28).toNat ∧ 7 ≤ (0xFFFFFFFF#32 >>> 28).toNat := by decide

theorem witness_RegisterNumbersAndWidths : 12 ≤ 12 ∧ WidthOk beforeWrap := by decide

theorem witness_StepRunsTheDecodedWord :
    ({ playing with trace := [0x50000000#32] } : State).trace = 0x50000000#32 :: [] ∧
    decode 0x50000000#32 = .op .tick ∧ (Instr.tgen 65535).wellFormed = true := by decide

theorem witness_BlockGoesOnByAnEnabledOperation :
    (playing.trace = [] ∧ playing.params.wellFormed = true) ∧
    (beforeFirst.trace = [] ∧ beforeFirst.params.wellFormed = true ∧ ovfEnabled beforeFirst = true) := by decide

theorem witness_EnabledExactlyAsDispatchSays : playing.params.wellFormed = true := by decide

theorem witness_PendingOverflowGoesFirst :
    beforeFirst.params.wellFormed = true ∧ ovfEnabled beforeFirst = true ∧ Instr.tick ≠ .ovf ∧ Instr.tick ≠ .reset := by
  decide

/-- P1 with an odd number of steps (section 2.7: refused). -/
def oddSteps : Params := { p1 with n := 201 }

theorem witness_IllFormedParametersGiveNoBehaviour :
    (0 < p1.fClk ∧ 0 < p1.fOut ∧ p1.table.length = p1.n / 2 ∧ ∀ v ∈ p1.table, v < 2 ^ p1.cw) ∧
    ¬((oddSteps.n % 2 = 0 ∧ 4 ≤ oddSteps.n) ∧ oddSteps.fOut * oddSteps.n ∣ oddSteps.fClk ∧
      (1 ≤ oddSteps.fClk / (oddSteps.fOut * oddSteps.n) ∧
        oddSteps.fClk / (oddSteps.fOut * oddSteps.n) ≤ 2 ^ oddSteps.cw - 1) ∧
      oddSteps.n / 2 ≤ 2 ^ oddSteps.curw - 3) := by decide

theorem witness_ResetFromAnyState :
    ({ playing with fault := some .indexOutOfRange } : State).params.wellFormed = true := by decide

/-- Both clauses, at the first, the last and the first index past the table. -/
theorem witness_TgenStoresItsEntry :
    (tabled.params.wellFormed = true ∧ ovfEnabled tabled = false) ∧
    (({ tabled with fgpc := 0 } : State).fault = none ∧ ({ tabled with fgpc := 0 } : State).fgpc = 0 ∧ 0 < tabled.params.h) ∧
    (({ tabled with fgpc := 1 } : State).fault = none ∧ ({ tabled with fgpc := 1 } : State).fgpc = 1 ∧ 1 < tabled.params.h) ∧
    ¬(tabled.fault = none ∧ tabled.fgpc = 2 ∧ 2 < tabled.params.h) := by decide

theorem witness_CfgWritesTheContract :
    (tabled.params.wellFormed = true ∧ ovfEnabled tabled = false ∧ tabled.fault = none ∧ tabled.fgpc = tabled.params.h) ∧
    (configured.params.wellFormed = true ∧ ovfEnabled configured = false ∧
      ¬(configured.fault = none ∧ configured.fgpc = configured.params.h)) := by decide

theorem witness_SeiUnmasks :
    (({ configured with ifr := 1 } : State).params.wellFormed = true ∧ ovfEnabled { configured with ifr := 1 } = false ∧
      ({ configured with ifr := 1 } : State).fault = none ∧ configured.fgpc = configured.params.h + 1 ∧
      ({ configured with ifr := 1 } : State).ifrOvf = true ∧ ({ configured with ifr := 1 } : State).ienOvf = true) ∧
    (tabled.params.wellFormed = true ∧ ovfEnabled tabled = false ∧ ¬(tabled.fault = none ∧ tabled.fgpc = tabled.params.h + 1)) := by
  decide

theorem witness_IdleChangesNothing :
    (playing.params.wellFormed = true ∧ playing.fault = none ∧ playing.fgpc = playing.params.h + 2 ∧
      ovfEnabled playing = false) ∧
    (beforeFirst.params.wellFormed = true ∧
      ¬(beforeFirst.fault = none ∧ beforeFirst.fgpc = beforeFirst.params.h + 2 ∧ ovfEnabled beforeFirst = false)) := by decide

theorem witness_IdlesRemovedLeaveTheSameRun : (runTrace [.idle, .tick, .idle] playing).stopped = none := by decide

theorem exec_cfg_tabled : exec .cfg tabled = .next configured :=
  execCfg_next.mpr ⟨by decide, by decide, by decide, by decide⟩

theorem exec_sei_configured : exec .sei configured = .next playing :=
  execSei_next.mpr ⟨by decide, by decide, by decide, by decide⟩

theorem witness_CfgStartsTheCounter : BlockInv tabled ∧ exec .cfg tabled = .next configured :=
  ⟨by decide, exec_cfg_tabled⟩

theorem witness_SeiAfterTableAndConfiguration :
    (BlockInv configured ∧ exec .sei configured = .next playing) ∧
    (0 < configured.params.h ∧ 1 < configured.params.h) ∧
    BlockInv beforeFlip ∧ beforeFlip.gie = true ∧ beforeFlip.params = configured.params :=
  ⟨⟨by decide, exec_sei_configured⟩, by decide, by decide, by decide, by decide⟩

theorem witness_ReadyBeforeUnmasking :
    BlockInv configured ∧ HandlerForm configured ∧ configured.fgpc = configured.params.h + 1 ∧ 1 < configured.params.h := by
  decide

/-- Every clause: stopped by either field, reserved, up to TOP and short of it, down to 0 and short of it. -/
theorem witness_TickCountsFlagsAndLatches :
    (playing.params.wellFormed = true ∧ playing.fault = none ∧ ovfEnabled playing = false) ∧
    (({ playing with mode := 0 } : State).wgm = 0 ∧ ({ playing with presc := 0 } : State).cs = 0) ∧
    (({ playing with mode := 2 } : State).wgm ≠ 0 ∧ ({ playing with mode := 2 } : State).cs ≠ 0 ∧
      ({ playing with mode := 2 } : State).wgm ≠ 1 ∧ ({ playing with presc := 7 } : State).cs ≠ 1) ∧
    (playing.wgm = 1 ∧ playing.cs = 1 ∧ playing.dir = .up ∧ playing.cnt + 1 < 2 ^ playing.params.cw ∧
      ({ playing with cnt := 2 } : State).cnt + 1 = playing.top) ∧
    (beforeTick18.wgm = 1 ∧ beforeTick18.cs = 1 ∧ beforeTick18.dir = .down ∧ 0 < beforeTick18.cnt ∧ beforeTick18.cnt = 1 ∧
      0 < ({ beforeTick18 with cnt := 3 } : State).cnt) := by decide

theorem witness_CountOutsideTheWidthIsFree :
    (playing.params.wellFormed = true ∧ playing.fault = none ∧ ovfEnabled playing = false ∧ playing.wgm = 1 ∧
      playing.cs = 1) ∧
    (({ playing with cnt := 65535 } : State).dir = .up ∧
      ¬({ playing with cnt := 65535 } : State).cnt + 1 < 2 ^ playing.params.cw) ∧
    (({ playing with dir := .down } : State).dir = .down ∧ ({ playing with dir := .down } : State).cnt = 0) := by decide

theorem witness_CounterSequence :
    BlockInv configured ∧ configured.fgpc = configured.params.h + 1 ∧ configured.cnt = 0 ∧ configured.dir = .up ∧
    Instr.reset ∉ [Instr.tick, .sei, .tick, .tick, .tick] ∧
    4 = (runTrace [.tick, .sei, .tick, .tick, .tick] configured).performed.count .tick % (2 * configured.params.m) := by
  decide

theorem witness_HandlerRowsAndLoad :
    (beforeFlip.params.wellFormed = true ∧ ovfEnabled beforeFlip = true ∧ beforeFlip.pending = true ∧
      beforeFlip.cursor < beforeFlip.params.h ∧ beforeFlip.table.read beforeFlip.cursor = some 3) ∧
    (beforeWrap.params.wellFormed = true ∧ ovfEnabled beforeWrap = true ∧ beforeWrap.pending = false ∧
      beforeWrap.params.h ≤ beforeWrap.cursor ∧ beforeWrap.table.read 0 = some 0) ∧
    (beforeFirst.params.wellFormed = true ∧ ovfEnabled beforeFirst = true ∧ beforeFirst.pending = false ∧
      beforeFirst.cursor < beforeFirst.params.h ∧ beforeFirst.table.read beforeFirst.cursor = some 0) ∧
    (({ beforeFirst with cursor := 1 } : State).cursor < beforeFirst.params.h ∧ beforeFirst.table.read 1 = some 3) := by decide

theorem witness_HandlerFaultsAreRecorded :
    (beforeFlip.params.wellFormed = true ∧ ovfEnabled beforeFlip = true ∧ beforeFlip.pending = true ∧
      beforeFlip.params.h ≤ ({ beforeFlip with cursor := 2 } : State).cursor) ∧
    (ovfEnabled { beforeFlip with table := [] } = true ∧ beforeFlip.cursor < beforeFlip.params.h ∧
      ({ beforeFlip with table := [] } : State).table.read 1 = none) ∧
    (ovfEnabled { beforeWrap with table := [] } = true ∧ beforeWrap.pending = false ∧
      beforeWrap.params.h ≤ beforeWrap.cursor ∧ ({ beforeWrap with table := [] } : State).table.read 0 = none) ∧
    (ovfEnabled { beforeFirst with table := [] } = true ∧ beforeFirst.pending = false ∧
      beforeFirst.cursor < beforeFirst.params.h ∧ ({ beforeFirst with table := [] } : State).table.read 0 = none) := by decide

theorem exec_ovf_faults :
    exec .ovf { beforeFirst with table := [] } =
      .next { beforeFirst with table := [], fault := some .unwrittenTableRead } :=
  execOvf_next.mpr ⟨by decide, by decide, by decide⟩

theorem witness_FaultIsStickyUntilReset :
    (exec .ovf { beforeFirst with table := [] } =
        .next { beforeFirst with table := [], fault := some .unwrittenTableRead } ∧
      ({ beforeFirst with table := [] } : State).fault = none ∧
      ({ beforeFirst with table := [], fault := some .unwrittenTableRead } : State).fault ≠ none) ∧
    ({ playing with fault := some .indexOutOfRange } : State).params.wellFormed = true ∧
    ({ playing with fault := some .indexOutOfRange } : State).fault ≠ none ∧ Instr.tick ≠ .reset :=
  ⟨⟨exec_ovf_faults, by decide, by decide⟩, by decide, by decide, by decide⟩

/-- P1 after the flip at tick 24. -/
def flipped : State := { beforeFlip with ifr := 0, cursor := 2, pending := false, chen := 2, cmpaBuf := 3, cmpbBuf := 3, k := 4 }

/-- P1 after the wrap at tick 18. -/
def wrapped : State := { beforeWrap with ifr := 0, cursor := 1, pending := true, cmpaBuf := 0, cmpbBuf := 0, k := 3 }

theorem exec_ovf_flips : exec .ovf beforeFlip = .next flipped := execOvf_next.mpr ⟨by decide, by decide, by decide⟩

theorem exec_ovf_wraps : exec .ovf beforeWrap = .next wrapped := execOvf_next.mpr ⟨by decide, by decide, by decide⟩

theorem witness_FlipAndWrapNeverTogether :
    (exec .ovf beforeFlip = .next flipped ∧ flipped.fault = none ∧ flipped.chenVal ≠ beforeFlip.chenVal) ∧
    (exec .ovf beforeWrap = .next wrapped ∧ wrapped.fault = none ∧ wrapped.pending = true) :=
  ⟨⟨exec_ovf_flips, by decide, by decide⟩, exec_ovf_wraps, by decide, by decide⟩

/-- The smallest block, `M = 1` (section 2.7), after its first wrap: period 3 opens with the value 1 active. -/
def wrappedSmall : State :=
  { wrapped with params := { p1 with fClk := 20, table := [0, 1] }, table := [(0, 0), (1, 1)], top := 1, cmpaAct := 1, cmpbAct := 1 }

/-- What the statement on pulse widths asks of a state and of channel A. -/
abbrev OpensPeriod (s : State) : Prop :=
  (s.params.wellFormed = true ∧ s.fault = none ∧ ovfEnabled s = false ∧ s.wgm = 1 ∧ s.cs = 1) ∧
  (s.params.latch = .bottom ∧ s.top = s.params.m ∧ s.cnt = 0 ∧ s.dir = .up) ∧
  connected s .a = true ∧ driven s .a = true ∧ activeCompare s .a ≤ s.top

/-- At the active values 0, 1 and `M`, in states of the invariants with interrupts unmasked. -/
theorem witness_PulseWidthOfAPeriod :
    (OpensPeriod playing ∧ activeCompare playing .a = 0) ∧
    (OpensPeriod wrappedSmall ∧ activeCompare wrappedSmall .a = 1 ∧ wrappedSmall.gie = true) ∧
    (OpensPeriod wrapped ∧ activeCompare wrapped .a = wrapped.top ∧ wrapped.gie = true) := by decide

theorem wrapped_is_reachable_form :
    (BlockInv wrapped ∧ HandlerForm wrapped ∧ ActiveForm wrapped) ∧
    (BlockInv wrappedSmall ∧ HandlerForm wrappedSmall ∧ ActiveForm wrappedSmall) :=
  ⟨⟨by decide, by decide, by decide⟩, by decide, by decide, by decide⟩

theorem witness_TableNeverIndexedOutOfRange :
    (BlockInv beforeFirst ∧ ovfEnabled beforeFirst = true ∧ handlerRow beforeFirst = .none) ∧
    (BlockInv beforeWrap ∧ ovfEnabled beforeWrap = true ∧ handlerRow beforeWrap = .wrap) ∧
    (BlockInv beforeFlip ∧ ovfEnabled beforeFlip = true ∧ handlerRow beforeFlip = .flip) :=
  ⟨by decide, by decide, by decide⟩

theorem exec_tick_18 : exec .tick beforeTick18 = .next beforeWrap :=
  execTick_next.mpr ⟨by decide, by decide, by decide, by decide⟩

theorem exec_tgen_1 : exec (.tgen 1) { startState p1 with fgpc := 1, table := [(0, 0)] } = .next tabled :=
  execTgen_next.mpr ⟨by decide, by decide, by decide, by decide, by decide⟩

/-- One operation of each clause's kind, none of them `RESET`. -/
theorem witness_OwnershipOfEveryPiece :
    (exec .tick beforeTick18 = .next beforeWrap ∧ Instr.tick ≠ .reset ∧ (∀ j, Instr.tick ≠ .tgen j) ∧ Instr.tick ≠ .cfg ∧
      Instr.tick ≠ .sei ∧ Instr.tick ≠ .ovf) ∧
    (exec .ovf beforeFlip = .next flipped ∧ Instr.ovf ≠ .tick) ∧
    (exec (.tgen 1) { startState p1 with fgpc := 1, table := [(0, 0)] } = .next tabled ∧
      BlockInv { startState p1 with fgpc := 1, table := [(0, 0)] }) :=
  ⟨⟨exec_tick_18, by decide, by simp, by decide, by decide, by decide⟩, ⟨exec_ovf_flips, by decide⟩, exec_tgen_1, by decide⟩

/-- A tick that closes a period, and an operation that is no tick. -/
theorem witness_TickMovesThePhase :
    (BlockInv beforeTick18 ∧ beforeTick18.params.h < beforeTick18.fgpc ∧ exec .tick beforeTick18 = .next beforeWrap ∧
      Instr.tick ≠ .reset) ∧
    (BlockInv beforeFlip ∧ beforeFlip.params.h < beforeFlip.fgpc ∧ exec .ovf beforeFlip = .next flipped ∧
      Instr.ovf ≠ .reset) :=
  ⟨⟨by decide, by decide, exec_tick_18, by decide⟩, by decide, by decide, exec_ovf_flips, by decide⟩

theorem witness_TableFrozenDuringPlayback :
    BlockInv beforeFlip ∧ beforeFlip.gie = true ∧ exec .ovf beforeFlip = .next flipped ∧ Instr.ovf ≠ .reset :=
  ⟨by decide, by decide, exec_ovf_flips, by decide⟩

theorem witness_OnlyBottomSetsTheOverflowFlag :
    exec .tick beforeTick18 = .next beforeWrap ∧ beforeTick18.wgm = 1 ∧ beforeTick18.cs = 1 ∧ beforeTick18.dir = .down ∧
    beforeWrap.cnt = 0 ∧ beforeTick18.ifrOvf = false ∧ beforeWrap.ifrOvf = true := ⟨exec_tick_18, by decide⟩

theorem witness_OneActiveChannel :
    BlockInv beforeFlip ∧ beforeFlip.params.h < beforeFlip.fgpc ∧ exec .ovf beforeFlip = .next flipped :=
  ⟨by decide, by decide, exec_ovf_flips⟩

/-! ### Steps of a state with a word first in its trace -/

theorem step_of_word {s t : State} {w : OpWord} {i : Instr} (hd : decode w = .op i) (he : exec i s = .next t) :
    step (placeWord w s) = .next t := by
  simp only [step, nextOp, placeWord, hd]
  exact he

theorem step_tick_18 : step (placeWord 0x50000000#32 beforeTick18) = .next beforeWrap := step_of_word (by decide) exec_tick_18

theorem witness_StepKeepsWidths :
    WidthOk (placeWord 0x50000000#32 beforeTick18) ∧ step (placeWord 0x50000000#32 beforeTick18) = .next beforeWrap :=
  ⟨by decide, step_tick_18⟩

theorem witness_StepKeepsTheTableCanonical :
    (placeWord 0x10000001#32 { startState p1 with fgpc := 1, table := [(0, 0)] }).table.wf ∧
    step (placeWord 0x10000001#32 { startState p1 with fgpc := 1, table := [(0, 0)] }) = .next tabled :=
  ⟨by decide, step_of_word (by decide) exec_tgen_1⟩

theorem witness_ReachableFormsAtReset : p1.wellFormed = true ∧ p2.wellFormed = true := by decide

theorem witness_StepKeepsBlockInvariant :
    BlockInv (placeWord 0x50000000#32 beforeTick18) ∧ step (placeWord 0x50000000#32 beforeTick18) = .next beforeWrap :=
  ⟨by decide, step_tick_18⟩

theorem witness_EveryReachableStateIsGood : p1.wellFormed = true := by decide

theorem witness_StepKeepsHandlerClosedForm :
    BlockInv (placeWord 0x60000000#32 beforeFlip) ∧ HandlerForm (placeWord 0x60000000#32 beforeFlip) ∧
    step (placeWord 0x60000000#32 beforeFlip) = .next flipped :=
  ⟨by decide, by decide, step_of_word (by decide) exec_ovf_flips⟩

theorem witness_StepKeepsActiveClosedForm :
    BlockInv (placeWord 0x50000000#32 beforeTick18) ∧ HandlerForm (placeWord 0x50000000#32 beforeTick18) ∧
    DeferralForm (placeWord 0x50000000#32 beforeTick18) ∧ ActiveForm (placeWord 0x50000000#32 beforeTick18) ∧
    step (placeWord 0x50000000#32 beforeTick18) = .next beforeWrap :=
  ⟨by decide, by decide, by decide, by decide, step_tick_18⟩

theorem witness_StepKeepsDeferral :
    BlockInv (placeWord 0x60000000#32 beforeFlip) ∧ HandlerForm (placeWord 0x60000000#32 beforeFlip) ∧
    DeferralForm (placeWord 0x60000000#32 beforeFlip) ∧ step (placeWord 0x60000000#32 beforeFlip) = .next flipped :=
  ⟨by decide, by decide, by decide, step_of_word (by decide) exec_ovf_flips⟩

theorem witness_FlipIsFreeOfGlitches :
    BlockInv beforeFlip ∧ HandlerForm beforeFlip ∧ DeferralForm beforeFlip ∧ beforeFlip.params.entry 0 = 0 ∧
    ovfEnabled beforeFlip = true ∧ beforeFlip.pending = true := by decide

theorem witness_InvocationRecordIsClosedForm :
    BlockInv beforeWrap ∧ HandlerForm beforeWrap ∧ ovfEnabled beforeWrap = true := by decide

theorem witness_HandlerTraceIsAFunctionOfTheTable : p2.wellFormed = true ∧ Instr.reset ∉ pseudoStartup p2 := by decide

theorem witness_SwitchesAreHInvocationsApart : 2 ≤ 2 ∧ rowOf 2 2 = .wrap ∧ rowOf 2 3 = .flip ∧ 2 ≤ 100 := by decide

/-- At an invocation without a row, at a wrap and at a flip. -/
theorem witness_InvocationFollowsTheClosedForm :
    (BlockInv beforeFirst ∧ HandlerForm beforeFirst ∧ ovfEnabled beforeFirst = true) ∧
    (BlockInv beforeWrap ∧ HandlerForm beforeWrap ∧ ovfEnabled beforeWrap = true) ∧
    (BlockInv beforeFlip ∧ HandlerForm beforeFlip ∧ ovfEnabled beforeFlip = true) := ⟨by decide, by decide, by decide⟩

theorem witness_ScheduleTakesPendingOverflows :
    ((Run.start beforeFirst).state.params.wellFormed = true ∧ (Run.start beforeFirst).stopped = none ∧
      ovfEnabled (Run.start beforeFirst).state = true) ∧
    ((Run.start playing).state.params.wellFormed = true ∧ ovfEnabled (Run.start playing).state = false) ∧
    (∃ t, exec .tick (takePending (Run.start beforeFirst)).state = .next t) ∧
    exec .cfg (takePending (Run.start beforeFirst)).state = .refused (.notEnabled "CFG") ∧
    ({ Run.start playing with stopped := some (.refused (.notEnabled "CFG")) } : Run).stopped =
      some (.refused (.notEnabled "CFG")) :=
  ⟨by decide, by decide, ⟨_, execTick_next.mpr ⟨by decide, by decide, by decide, rfl⟩⟩, rfl, rfl⟩

theorem witness_ComputedTableIsExact :
    (4 % 2 = 0 ∧ 4 ≤ 4 ∧ 1 ≤ 1 ∧ 2 * 0 < 4 ∧ 2 * 1 < 4) ∧ IsTexact 4 1 0 0 ∧ 1 < 4 / 2 := by
  refine ⟨by decide, ?_, by decide⟩
  norm_num [IsTexact]

theorem witness_ExactTableConforms : 6 % 2 = 0 ∧ 4 ≤ 6 ∧ 1 ≤ 4 := by decide

/-- With 4 dividing `N` and not, at the ends of each clause's range. -/
theorem witness_ShapeOfTheExactTable :
    (8 % 2 = 0 ∧ 4 ≤ 8 ∧ 1 ≤ 5 ∧ 8 % 4 = 0) ∧ (6 % 2 = 0 ∧ 4 ≤ 6 ∧ 1 ≤ 4 ∧ 6 % 4 = 2) ∧
    (0 < 8 / 2 ∧ 1 ≤ 1 ∧ 1 < 8 / 2 ∧ 1 ≤ 3 ∧ 3 < 8 / 2) ∧ (0 ≤ 2 ∧ 4 * 2 ≤ 8) ∧ (8 ≤ 4 * 2 ∧ 2 ≤ 3 ∧ 3 < 8 / 2) := by
  decide

end Sys2Proof.Tests
end

section
/-! The scope of the block: which parameters it starts with (spec/00_scope.md R11), and that a block with no
word left always has a next step by an enabled operation (R16, spec/60_exceptions.md R176). -/

namespace Sys2Proof.Machine

/-! ### Enabled operations and next states -/

/-- Being enabled is having a next state, operation by operation (R88, R171 (b), R176). -/
theorem exec_next_iff_enabled {s : State} (hw : s.params.wellFormed = true) (i : Instr) :
    (∃ t, exec i s = .next t) ↔ enabled s i = true := by
  cases i with
  | reset => simp [execReset_next, enabled, hw]
  | tgen i => simp [execTgen_next, enabled, enabledTgen_iff, hw]
  | cfg => simp [execCfg_next, enabled, enabledCfg_iff, hw]
  | sei => simp [execSei_next, enabled, enabledSei_iff, hw]
  | idle => simp [execIdle_next, enabled, enabledIdle_iff, hw]
  | tick => simp [execTick_next, enabled, enabledTick_iff, hw]
  | ovf => simp [execOvf_next, enabled, hw]

/-- The number of free values used has no part in what is enabled. -/
theorem enabled_withFresh (s : State) (n : Nat) (i : Instr) : enabled { s with fresh := n } i = enabled s i := by
  cases i <;> rfl

/-- While an overflow is to be taken, every operation but `OVF` and `RESET` waits (R176). -/
theorem enabled_while_ovf {s : State} (ho : ovfEnabled s = true) {i : Instr} (hi : enabled s i = true) :
    i = .ovf ∨ i = .reset := by
  have hm : ¬mayRun s = true := by simp [mayRun_iff, ho]
  cases i with
  | reset => exact .inr rfl
  | ovf => exact .inl rfl
  | tgen i => exact absurd (enabledTgen_iff.mp hi).1 hm
  | cfg => exact absurd (enabledCfg_iff.mp hi).1 hm
  | sei => exact absurd (enabledSei_iff.mp hi).1 hm
  | idle => exact absurd (enabledIdle_iff.mp hi).1 hm
  | tick => exact absurd (enabledTick_iff.mp hi).1 hm

/-- With no word left, the step of a well-formed block is the chosen operation, one more free value counted (R116). -/
theorem step_of_no_word {s : State} (ht : s.trace = []) (hw : s.params.wellFormed = true) :
    step s = exec (chooseOp s) { s with fresh := s.fresh + 1 } := by
  simp [step, nextOp, ht, hw]

/-- Settles O6: the free choice is among the enabled operations, and an enabled operation has a next state. -/
theorem blockGoesOnByAnEnabledOperation : Obligations.BlockGoesOnByAnEnabledOperation := by
  intro s ht hw
  have hc : enabled s (chooseOp s) = true := chooseOp_enabled s
  obtain ⟨t, hexec⟩ : ∃ t, exec (chooseOp s) { s with fresh := s.fresh + 1 } = .next t :=
    (exec_next_iff_enabled (s := { s with fresh := s.fresh + 1 }) hw _).mpr ((enabled_withFresh s _ _).trans hc)
  exact ⟨chooseOp s, t, hexec, (step_of_no_word ht hw).trans hexec, fun ho => enabled_while_ovf ho hc⟩

/-! ### Ill-formed parameters -/

/-- Clauses (a) to (d) of R11, in the rule's own form. -/
abbrev StartConditions (p : Params) : Prop :=
  (p.n % 2 = 0 ∧ 4 ≤ p.n) ∧ p.fOut * p.n ∣ p.fClk ∧
  (1 ≤ p.fClk / (p.fOut * p.n) ∧ p.fClk / (p.fOut * p.n) ≤ 2 ^ p.cw - 1) ∧ p.n / 2 ≤ 2 ^ p.curw - 3

/-- Clause (d) with its subtraction taken away: `2^CURW - 3` truncates at 0, below every `H` of a block (clause (a)). -/
theorem h_le_cursorRange_iff {p : Params} (hn : 4 ≤ p.n) : p.n / 2 ≤ 2 ^ p.curw - 3 ↔ p.h + 3 ≤ 2 ^ p.curw := by
  simp only [Params.h]
  omega

/-- The upper bound of clause (c) says that `M` fits `CW` bits. -/
theorem m_le_counterRange_iff (p : Params) : p.fClk / (p.fOut * p.n) ≤ 2 ^ p.cw - 1 ↔ fits p.cw p.m :=
  Nat.le_sub_one_iff_lt (Nat.two_pow_pos p.cw)

/-- Well-formed parameters are those that meet R11's clauses, have positive frequencies (R9), and have a table of `H`
entries that fit (R12, R62). -/
theorem wellFormed_iff_startConditions (p : Params) :
    p.wellFormed = true ↔
      (0 < p.fClk ∧ 0 < p.fOut) ∧ StartConditions p ∧
        p.table.length = p.h ∧ ∀ v ∈ p.table, fits p.cw v := by
  rw [wellFormed_iff, Params.Clauses, StartConditions, m_le_counterRange_iff, Nat.dvd_iff_mod_eq_zero]
  constructor
  · rintro ⟨hpos, hn, hdvd, hm, hh, htable⟩
    exact ⟨hpos, ⟨hn, hdvd, hm, (h_le_cursorRange_iff hn.2).mpr hh⟩, htable⟩
  · rintro ⟨hpos, ⟨hn, hdvd, hm, hh⟩, htable⟩
    exact ⟨hpos, hn, hdvd, hm, (h_le_cursorRange_iff hn.2).mp hh, htable⟩

/-- Every operation asks first for well-formed parameters (R11). -/
theorem exec_of_illFormed {s : State} (hw : ¬s.params.wellFormed = true) (i : Instr) :
    exec i s = .refused .illFormedParameters := by
  cases i <;> exact ifWellFormed_not hw _

/-- Neither a word of the trace nor the free choice gives an ill-formed block a step (R11). -/
theorem step_of_illFormed {s : State} (hw : ¬s.params.wellFormed = true) (t : State) : step s ≠ .next t := by
  intro h
  rcases step_next h with ⟨w, rest, i, -, -, hexec⟩ | ⟨-, hwf, -⟩
  · rw [exec_of_illFormed (s := { s with trace := rest }) hw] at hexec
    cases hexec
  · exact hw hwf

/-- Settles O9: the model's well-formedness contains R11's clauses, and it is every operation's first guard. -/
theorem illFormedParametersGiveNoBehaviour : Obligations.IllFormedParametersGiveNoBehaviour := by
  refine ⟨fun p hclk hout hlen hfit => ?_, fun s hbad => ?_⟩
  · rw [wellFormed_iff_startConditions]
    exact ⟨fun ⟨_, hstart, _⟩ => hstart, fun hstart => ⟨⟨hclk, hout⟩, hstart, hlen, hfit⟩⟩
  · have hw : ¬s.params.wellFormed = true := by
      intro hwf
      obtain ⟨-, hstart, -⟩ := (wellFormed_iff_startConditions s.params).mp hwf
      exact hbad hstart
    exact ⟨exec_of_illFormed hw, step_of_illFormed hw⟩

end Sys2Proof.Machine
end

section
/-! The state (spec/10_state.md): the reset state (R45), the fault record (R39), and the invariant of the reachable
states (R46), kept operation by operation. -/

namespace Sys2Proof.Machine

/-! ### The reset state -/

/-- Settles O11: every row of R45's table; the table of the reset state lists no entry. -/
theorem resetStateValues : Obligations.ResetStateValues :=
  ⟨rfl, Memory.read_reset, rfl, rfl, rfl, rfl, rfl, rfl, rfl, rfl, rfl, rfl, rfl, rfl, rfl, rfl, rfl, rfl, rfl, rfl, rfl⟩

/-- The parameters of the reset state are well formed (R13). -/
theorem wellFormed_reference : Config.reference.wellFormed = true := by decide

/-- The reset state is the start of a block with the reference parameters. -/
theorem reset_eq_startState : State.reset = startState Config.reference := rfl

/-- The table of a block that starts: nothing below `FGPC = 0` is written. -/
theorem tableForm_startState (p : Params) : TableForm (startState p) :=
  ⟨Memory.wf_reset, by simp [startState, State.reset], fun i _ => by simp [startState, State.reset, Memory.read]⟩

/-- Every register of R26 to R38 starts at its reset value (R45). -/
theorem registersAtReset_startState (p : Params) : RegistersAtReset (startState p) :=
  ⟨⟨rfl, rfl, rfl, rfl, rfl⟩, ⟨rfl, rfl, rfl, rfl⟩, rfl, rfl, rfl, rfl, rfl, rfl⟩

/-- The invariant of R46 holds where a block starts: `FGPC` and `K` are 0, long before `CFG` and `SEI`. -/
theorem blockInv_startState {p : Params} (hp : p.wellFormed = true) : BlockInv (startState p) :=
  ⟨⟨hp, rfl⟩, Nat.le_refl 0, Nat.zero_le _, tableForm_startState p, Nat.zero_le _, nofun, ⟨rfl, rfl⟩,
    fun _ => registersAtReset_startState p, fun hafter => absurd hafter (Nat.not_lt_zero _),
    iff_of_false nofun (Nat.succ_ne_zero _).symm, fun hk => absurd hk (Nat.lt_irrefl 0)⟩

theorem handlerForm_startState (p : Params) : HandlerForm (startState p) := by
  simp [HandlerForm, startState, State.reset]

theorem deferralForm_startState (p : Params) : DeferralForm (startState p) := by
  simp [DeferralForm, startState, State.reset]

theorem activeForm_startState (p : Params) : ActiveForm (startState p) := by
  simp [ActiveForm, startState, State.reset]

/-- Every reset value is 0 or nothing, so it is in its width. -/
theorem widthOk_startState (p : Params) : WidthOk (startState p) := by
  simp [WidthOk, startState, State.reset]

/-- Settles O37: each invariant at the start of a block; the reset state is one such start. -/
theorem reachableFormsAtReset : Obligations.ReachableFormsAtReset := by
  refine ⟨?_, fun p hp => ⟨blockInv_startState hp, handlerForm_startState p, deferralForm_startState p,
    activeForm_startState p, widthOk_startState p⟩⟩
  rw [reset_eq_startState]
  exact ⟨blockInv_startState wellFormed_reference, widthOk_startState Config.reference⟩

/-! ### The fault record -/

/-- Where nothing but `OVF` and `RESET` may run, every other operation is refused as not enabled (R88, R176). -/
theorem exec_of_not_mayRun {s : State} (hw : s.params.wellFormed = true) (hm : mayRun s = false) {i : Instr}
    (hovf : i ≠ .ovf) (hreset : i ≠ .reset) : exec i s = .refused (.notEnabled i.mnemonic) := by
  cases i with
  | reset => exact absurd rfl hreset
  | ovf => exact absurd rfl hovf
  | tgen i => simp [exec, execTgen, ifWellFormed_of hw, enabledTgen, hm]
  | cfg => simp [exec, execCfg, ifWellFormed_of hw, enabledCfg, hm]
  | sei => simp [exec, execSei, ifWellFormed_of hw, enabledSei, hm]
  | idle => simp [exec, execIdle, ifWellFormed_of hw, enabledIdle, hm]
  | tick => simp [exec, execTick, ifWellFormed_of hw, hm]

theorem exec_ovf_of_not_enabled {s : State} (hw : s.params.wellFormed = true) (ho : ovfEnabled s = false) :
    exec .ovf s = .refused (.notEnabled "OVF") := by
  simp [exec, execOvf, ifWellFormed_of hw, ho, Instr.mnemonic]

theorem mayRun_of_fault {s : State} (hf : s.fault ≠ none) : mayRun s = false := by
  simp [mayRun, hf]

theorem ovfEnabled_of_fault {s : State} (hf : s.fault ≠ none) : ovfEnabled s = false := by
  simp [ovfEnabled, hf]

/-- While a fault is recorded, every operation but `RESET` is refused (R39). -/
theorem exec_of_fault {s : State} (hw : s.params.wellFormed = true) (hf : s.fault ≠ none) {i : Instr}
    (hreset : i ≠ .reset) : exec i s = .refused (.notEnabled i.mnemonic) := by
  by_cases hovf : i = .ovf
  · subst hovf
    exact exec_ovf_of_not_enabled hw (ovfEnabled_of_fault hf)
  · exact exec_of_not_mayRun hw (mayRun_of_fault hf) hovf hreset

/-- The fault record is written by `OVF` and `RESET` alone (R39, R171 (c)). -/
theorem exec_keeps_fault {s t : State} {i : Instr} (h : exec i s = .next t) (hovf : i ≠ .ovf) (hreset : i ≠ .reset) :
    t.fault = s.fault := by
  cases i with
  | reset => exact absurd rfl hreset
  | ovf => exact absurd rfl hovf
  | tgen i => obtain ⟨-, -, -, -, rfl⟩ := execTgen_next.mp h; rfl
  | cfg => obtain ⟨-, -, -, rfl⟩ := execCfg_next.mp h; rw [configure_eq]
  | sei => obtain ⟨-, -, -, rfl⟩ := execSei_next.mp h; rfl
  | idle => obtain ⟨-, -, -, rfl⟩ := execIdle_next.mp h; rfl
  | tick => obtain ⟨-, -, -, rfl⟩ := execTick_next.mp h; rw [clockTick_frame]

/-- Settles O28: `OVF` and `RESET` alone write the record, a recorded fault disables all but `RESET`, which clears it. -/
theorem faultIsStickyUntilReset : Obligations.FaultIsStickyUntilReset := by
  refine ⟨rfl, fun s t i h hs ht => ?_, fun s i hw hf => ⟨exec_of_fault hw hf, ?_⟩⟩
  · by_contra hovf
    by_cases hreset : i = .reset
    · subst hreset
      obtain ⟨-, rfl⟩ := execReset_next.mp h
      exact ht (resetState_fault s)
    · exact ht ((exec_keeps_fault h hovf hreset).trans hs)
  · exact ⟨resetState s, execReset_next.mpr ⟨hw, rfl⟩, resetState_fault s⟩

/-! ### From operations to steps and runs -/

/-- What every operation keeps, and the model's own `trace` and `fresh` have no part in, every step keeps. -/
theorem step_keeps {P : State → Prop} (hown : ∀ s ws n, P s → P { s with trace := ws, fresh := n })
    (hexec : ∀ s t i, P s → exec i s = .next t → P t) {s t : State} (hs : P s) (h : step s = .next t) : P t := by
  rcases step_next h with ⟨w, rest, i, -, -, hi⟩ | ⟨-, -, hi⟩
  · exact hexec _ t i (hown s rest s.fresh hs) hi
  · exact hexec _ t _ (hown s s.trace (s.fresh + 1) hs) hi

/-- What the operations of a trace keep holds where its run ends, stopped or not (R88). -/
theorem runTrace_keeps {P : State → Prop} {ops : List Instr}
    (hexec : ∀ s t i, i ∈ ops → P s → exec i s = .next t → P t) {s : State} (hs : P s) : P (runTrace ops s).state := by
  refine List.foldlRecOn (motive := fun r : Run => P r.state) ops (fun r i => perform i r) hs fun r hr i hi => ?_
  show P (perform i r).state
  unfold perform
  split
  · exact hr
  · split
    next t ht => exact hexec r.state t i hi hr ht
    · exact hr
    · exact hr

/-! ### The invariant of the reachable states: the foreground -/

/-- The invariant says nothing of the model's own `trace` and `fresh`. -/
theorem blockInv_withOwn {s : State} (h : BlockInv s) (ws : List OpWord) (n : Nat) :
    BlockInv { s with trace := ws, fresh := n } := h

/-- The state that `RESET` leaves is a start of the same block (R190), the model's own fields apart. -/
theorem resetState_keeps_blockInv {s : State} (hw : s.params.wellFormed = true) : BlockInv (resetState s) :=
  blockInv_withOwn (blockInv_startState hw) s.trace s.fresh

/-- Storing the entry that `FGPC` selects and counting on keeps the table's form (R46 (c), R105). -/
theorem tableForm_write {s : State} (h : TableForm s) (hlt : s.fgpc < s.params.h) :
    TableForm { s with table := s.table.write s.fgpc (s.params.entry s.fgpc), fgpc := s.fgpc + 1 } := by
  obtain ⟨hwf, hindex, hread⟩ := h
  refine ⟨Memory.wf_write hwf _ _, fun e he => ?_, fun i hi => ?_⟩
  · rcases Memory.mem_write he with rfl | he
    · exact hlt
    · exact hindex e he
  · show Memory.read (Memory.write _ _ _) i = if i < s.fgpc + 1 then some (s.params.entry i) else none
    rw [Memory.read_write, hread i hi]
    grind

/-- Once the whole table is written, `FGPC` no longer matters to its form. -/
theorem tableForm_advance {s : State} (h : TableForm s) (hge : s.params.h ≤ s.fgpc) :
    TableForm { s with fgpc := s.fgpc + 1 } := by
  obtain ⟨hwf, hindex, hread⟩ := h
  refine ⟨hwf, hindex, fun i hi => (hread i hi).trans ?_⟩
  have hlt : i < s.fgpc := Nat.lt_of_lt_of_le hi hge
  exact (if_pos hlt).trans (if_pos (Nat.lt_succ_of_lt hlt)).symm

/-- Before `CFG` everything is as at reset but `FGPC` and the table, so one more entry keeps the invariant. -/
theorem tgen_keeps_blockInv {s : State} (h : BlockInv s) (hlt : s.fgpc < s.params.h) :
    BlockInv { s with table := s.table.write s.fgpc (s.params.entry s.fgpc), fgpc := s.fgpc + 1 } := by
  obtain ⟨hok, hcnt, -, htable, hcursor, hpending, hpair, hreset, -, hgie, hk⟩ := h
  refine ⟨hok, hcnt, ?_, tableForm_write htable hlt, hcursor, hpending, hpair, fun _ => hreset hlt.le, ?_, ?_, hk⟩
  · show s.fgpc + 1 ≤ s.params.h + 2
    omega
  · show s.params.h < s.fgpc + 1 → _
    omega
  · show s.gie = true ↔ s.fgpc + 1 = s.params.h + 2
    rw [hgie]
    omega

/-- `CFG` finds the registers at reset and leaves them configured, the counter at 0 below `TOP = M` (R117). -/
theorem configure_keeps_blockInv {s : State} (h : BlockInv s) (hfgpc : s.fgpc = s.params.h) : BlockInv (configure s) := by
  obtain ⟨⟨hw, hfault⟩, -, -, htable, hcursor, hpending, hpair, hreset, -, hgie, hk⟩ := h
  obtain ⟨-, -, hcnt, hdir, -, hifr, -, -⟩ := hreset hfgpc.le
  have hm : 1 ≤ s.params.m := wellFormed_pos_m hw
  rw [configure_eq]
  refine ⟨⟨hw, hfault⟩, ?_, ?_, tableForm_advance htable hfgpc.ge, hcursor, hpending, hpair, ?_, fun _ => ?_, ?_, hk⟩
  · show s.cnt ≤ s.params.m
    omega
  · show s.fgpc + 1 ≤ s.params.h + 2
    omega
  · show s.fgpc + 1 ≤ s.params.h → _
    omega
  · refine ⟨⟨⟨rfl, rfl, rfl, rfl⟩, ⟨rfl, rfl, .inl rfl⟩, .inl hifr⟩, fun _ => ?_, fun hdown => ?_⟩
    · show s.cnt < s.params.m
      omega
    · exact absurd (hdir.symm.trans hdown) (by decide)
  · show s.gie = true ↔ s.fgpc + 1 = s.params.h + 2
    rw [hgie]
    omega

/-- `SEI` takes `GIE` and `FGPC` to their last values together (R119). -/
theorem sei_keeps_blockInv {s : State} (h : BlockInv s) (hfgpc : s.fgpc = s.params.h + 1) :
    BlockInv { s with gie := true, fgpc := s.fgpc + 1 } := by
  obtain ⟨hok, hcnt, -, htable, hcursor, hpending, hpair, -, hconf, -, -⟩ := h
  have hafter : s.params.h < s.fgpc := by omega
  refine ⟨hok, hcnt, ?_, tableForm_advance htable hafter.le, hcursor, hpending, hpair, ?_, fun _ => hconf hafter, ?_,
    fun _ => rfl⟩
  · show s.fgpc + 1 ≤ s.params.h + 2
    omega
  · show s.fgpc + 1 ≤ s.params.h → _
    omega
  · exact iff_of_true rfl (congrArg (· + 1) hfgpc)

/-! ### The invariant of the reachable states: the counter -/

/-- A counter whose `MODE` is at its reset value is stopped (R132). -/
theorem clockTick_of_mode_zero {s : State} (h : s.mode = 0) : clockTick s = s := by
  have hstopped : timerStopped s = true := by simp [timerStopped, State.wgm, h]
  rw [clockTick, if_pos hstopped]

/-- A configured counter runs (R132). -/
theorem timerStopped_of_configured {s : State} (h : Configured s) : timerStopped s = false := by
  obtain ⟨⟨hmode, hpresc, -, -⟩, -, -⟩ := h
  simp [timerStopped, State.wgm, State.cs, hmode, hpresc]

/-- A tick of a running counter that counts up within its width, whole (R131, R136). -/
theorem clockTick_of_up {s : State} (hrun : timerStopped s = false) (hdir : s.dir = .up)
    (hfits : s.cnt + 1 < 2 ^ s.params.cw) :
    clockTick s =
      { s with
        cnt := s.cnt + 1
        dir := if s.cnt + 1 = s.top then .down else .up
        cmpaAct := if s.cnt + 1 = s.top ∧ latchesAt s.params.latch .top = true then s.cmpaBuf else s.cmpaAct
        cmpbAct := if s.cnt + 1 = s.top ∧ latchesAt s.params.latch .top = true then s.cmpbBuf else s.cmpbAct } := by
  rw [clockTick, if_neg (by simp [hrun]), hdir]
  simp only [tickUp, countUp_of_fits hfits, arriveAt_eq]
  by_cases htop : s.cnt + 1 = s.top <;> simp [htop, setCnt, setDir, hdir]

/-- A tick of a running counter that counts down from above 0, whole (R131, R135, R136). -/
theorem clockTick_of_down {s : State} (hrun : timerStopped s = false) (hdir : s.dir = .down) (hpos : 0 < s.cnt) :
    clockTick s =
      { s with
        cnt := s.cnt - 1
        dir := if s.cnt = 1 then .up else .down
        ifr := if s.cnt = 1 then 1 else s.ifr
        cmpaAct := if s.cnt = 1 ∧ latchesAt s.params.latch .bottom = true then s.cmpaBuf else s.cmpaAct
        cmpbAct := if s.cnt = 1 ∧ latchesAt s.params.latch .bottom = true then s.cmpbBuf else s.cmpbAct } := by
  have hzero : s.cnt - 1 = 0 ↔ s.cnt = 1 := by omega
  rw [clockTick, if_neg (by simp [hrun]), hdir]
  simp only [tickDown, countDown_of_pos hpos, arriveAt_eq, setCnt_cnt, hzero]
  by_cases hone : s.cnt = 1 <;> simp [hone, setCnt, setDir, hdir]

/-- From `CFG` on, the invariant asks of the fields a tick writes only this. -/
theorem blockInv_withCounter {s : State} (h : BlockInv s) (hafter : s.params.h < s.fgpc) {c : Nat} {d : Dir}
    {f : Reg8} {a b : Nat} (hle : c ≤ s.top) (hform : (d = .up → c < s.top) ∧ (d = .down → 1 ≤ c))
    (hflag : f = 0 ∨ f = 1) (hpair : a = b) :
    BlockInv { s with cnt := c, dir := d, ifr := f, cmpaAct := a, cmpbAct := b } := by
  obtain ⟨hok, -, hfgpc, htable, hcursor, hpending, ⟨hbuf, -⟩, -, hconf, hgie, hk⟩ := h
  obtain ⟨⟨hset, hchannels, -⟩, -⟩ := hconf hafter
  exact ⟨hok, hle, hfgpc, htable, hcursor, hpending, ⟨hbuf, hpair⟩, fun hbefore => absurd hafter (Nat.not_lt.mpr hbefore),
    fun _ => ⟨⟨hset, hchannels, hflag⟩, hform⟩, hgie, hk⟩

/-- A tick finds the counter stopped before `CFG`, and from then on between 0 and `TOP`, off the boundary that its
direction leaves (R46 (a), R133). -/
theorem clockTick_keeps_blockInv {s : State} (h : BlockInv s) : BlockInv (clockTick s) := by
  have ⟨⟨hw, _⟩, _, _, _, _, _, ⟨hbuf, hact⟩, hreset, hconf, _, _⟩ := h
  rcases Nat.lt_or_ge s.params.h s.fgpc with hafter | hbefore
  · obtain ⟨hconfigured, hup, hdown⟩ := hconf hafter
    have ⟨⟨_, _, htop, _⟩, _, hflag⟩ := hconfigured
    have hrun : timerStopped s = false := timerStopped_of_configured hconfigured
    cases hdir : s.dir with
    | up =>
      have hlt : s.cnt < s.top := hup hdir
      have hfits : s.cnt + 1 < 2 ^ s.params.cw := by
        have hm : s.params.m < 2 ^ s.params.cw := wellFormed_fits_m hw
        omega
      rw [clockTick_of_up hrun hdir hfits]
      refine blockInv_withCounter h hafter hlt ?_ hflag (by rw [hbuf, hact])
      split
      · exact ⟨nofun, fun _ => Nat.succ_pos _⟩
      · exact ⟨fun _ => by omega, nofun⟩
    | down =>
      have hpos : 0 < s.cnt := hdown hdir
      rw [clockTick_of_down hrun hdir hpos]
      refine blockInv_withCounter h hafter (by omega) ?_ ?_ (by rw [hbuf, hact])
      · split
        · exact ⟨fun _ => by omega, nofun⟩
        · exact ⟨nofun, fun _ => by omega⟩
      · split
        · exact .inr rfl
        · exact hflag
  · obtain ⟨⟨-, hmode, -, -, -⟩, -, -⟩ := hreset hbefore
    rwa [clockTick_of_mode_zero hmode]

/-! ### The invariant of the reachable states: the handler -/

/-- `OVF` is enabled only once the foreground has come to its end: interrupts are unmasked by `SEI` alone. -/
theorem fgpc_of_ovfEnabled {s : State} (h : BlockInv s) (ho : ovfEnabled s = true) : s.fgpc = s.params.h + 2 := by
  obtain ⟨-, -, -, -, -, -, -, -, -, hgie, -⟩ := h
  obtain ⟨-, -, -, hunmasked⟩ := ovfEnabled_iff.mp ho
  exact hgie.mp hunmasked

/-- The index that an invocation reads is below `H` (R158): 1 after a flip, 0 after a wrap, else the cursor. -/
theorem afterRow_cursor_lt {s : State} (h : BlockInv s) : (afterRow s).cursor < s.params.h := by
  obtain ⟨⟨hw, -⟩, -, -, -, -, hpending, -⟩ := h
  have hh : 2 ≤ s.params.h := wellFormed_two_le_h hw
  rcases afterRow_cases s with ⟨hp, -, he⟩ | ⟨-, -, -, he⟩ | ⟨-, hlt, -, he⟩ <;> rw [he]
  · show s.cursor < s.params.h
    rw [hpending hp]
    exact hh
  · show 0 < s.params.h
    omega
  · exact hlt

/-- Only the wrap leaves a switch pending, and it leaves the cursor at 0 (R152, R153). -/
theorem afterRow_cursor_of_pending {s : State} (h : (afterRow s).pending = true) : (afterRow s).cursor = 0 := by
  rcases afterRow_cases s with ⟨-, -, he⟩ | ⟨-, -, -, he⟩ | ⟨hp, -, -, he⟩ <;> rw [he] at h ⊢
  · simp at h
  · simp [hp] at h

/-- The row's action keeps `CHEN` at one of its two legal values: the flip exchanges them (R152). -/
theorem afterRow_chen {s : State} (h : Configured s) : (afterRow s).chen = 0b01 ∨ (afterRow s).chen = 0b10 := by
  obtain ⟨⟨-, -, -, htmask⟩, ⟨-, -, hchen⟩, -⟩ := h
  rcases afterRow_cases s with ⟨-, -, he⟩ | ⟨-, -, -, he⟩ | ⟨-, -, -, he⟩ <;> rw [he]
  · rcases hchen with hc | hc
    · exact .inr (by simp [State.chenVal, State.tmaskVal, hc, htmask])
    · exact .inl (by simp [State.chenVal, State.tmaskVal, hc, htmask])
  · exact hchen
  · exact hchen

/-- An invocation whose index is below `H` and written loads that entry (R155, R156), whole. -/
theorem handlerInvocation_of_read {s : State} {v : Nat} (hlt : (afterRow s).cursor < s.params.h)
    (hread : s.table.read (afterRow s).cursor = some v) :
    handlerInvocation s =
      { s with
        ifr := 0, chen := (afterRow s).chen, pending := (afterRow s).pending, cmpaBuf := v, cmpbBuf := v
        cursor := (afterRow s).cursor + 1, k := s.k + 1 } := by
  have hparams : (afterRow s).params = s.params := by rw [afterRow_frame]
  have htable : (afterRow s).table = s.table := by rw [afterRow_frame]
  have hload : tableRead (afterRow s).cursor (afterRow s) = .ok v := by
    rw [tableRead_ok, hparams, htable]
    exact ⟨hlt, hread⟩
  rcases handlerInvocation_cases s with ⟨u, hu, he⟩ | ⟨f, hf, -⟩
  · obtain rfl : v = u := by simpa using hload.symm.trans hu
    rw [he, afterRow_frame]
  · exact absurd (hload.symm.trans hf) (by simp)

/-- In a block that came from reset an enabled invocation never faults (R158): it loads what `TGEN` stored. -/
theorem handlerInvocation_of_blockInv {s : State} (h : BlockInv s) (ho : ovfEnabled s = true) :
    handlerInvocation s =
      { s with
        ifr := 0, chen := (afterRow s).chen, pending := (afterRow s).pending
        cmpaBuf := s.params.entry (afterRow s).cursor, cmpbBuf := s.params.entry (afterRow s).cursor
        cursor := (afterRow s).cursor + 1, k := s.k + 1 } := by
  have hlt : (afterRow s).cursor < s.params.h := afterRow_cursor_lt h
  have hfgpc : s.fgpc = s.params.h + 2 := fgpc_of_ovfEnabled h ho
  obtain ⟨-, -, -, ⟨-, -, hread⟩, -⟩ := h
  exact handlerInvocation_of_read hlt ((hread _ hlt).trans (if_pos (by omega)))

/-- An enabled invocation keeps the invariant (R158, R159). -/
theorem handlerInvocation_keeps_blockInv {s : State} (h : BlockInv s) (ho : ovfEnabled s = true) :
    BlockInv (handlerInvocation s) := by
  have hlt : (afterRow s).cursor < s.params.h := afterRow_cursor_lt h
  have hend : s.fgpc = s.params.h + 2 := fgpc_of_ovfEnabled h ho
  rw [handlerInvocation_of_blockInv h ho]
  obtain ⟨hok, hcnt, hfgpc, htable, -, -, ⟨-, hact⟩, -, hconf, hgie, -⟩ := h
  obtain ⟨hconfigured, hcounter⟩ := hconf (by omega)
  have ⟨hset, ⟨hien, hddr, _⟩, _⟩ := hconfigured
  refine ⟨hok, hcnt, hfgpc, htable, hlt, fun hp => ?_, ⟨rfl, hact⟩, fun hbefore => ?_,
    fun _ => ⟨⟨hset, ⟨hien, hddr, afterRow_chen hconfigured⟩, .inl rfl⟩, hcounter⟩, hgie, fun _ => hgie.mpr hend⟩
  · show (afterRow s).cursor + 1 = 1
    rw [afterRow_cursor_of_pending hp]
  · have : s.fgpc ≤ s.params.h := hbefore
    omega

/-! ### The invariant of the reachable states: every operation, step and run -/

/-- Every operation keeps the invariant of R46. -/
theorem exec_keeps_blockInv {s t : State} {i : Instr} (h : BlockInv s) (hexec : exec i s = .next t) : BlockInv t := by
  cases i with
  | reset =>
    obtain ⟨hw, rfl⟩ := execReset_next.mp hexec
    exact resetState_keeps_blockInv hw
  | tgen i =>
    obtain ⟨-, -, rfl, hlt, rfl⟩ := execTgen_next.mp hexec
    exact tgen_keeps_blockInv h hlt
  | cfg =>
    obtain ⟨-, -, hfgpc, rfl⟩ := execCfg_next.mp hexec
    exact configure_keeps_blockInv h hfgpc
  | sei =>
    obtain ⟨-, -, hfgpc, rfl⟩ := execSei_next.mp hexec
    exact sei_keeps_blockInv h hfgpc
  | idle =>
    obtain ⟨-, -, -, rfl⟩ := execIdle_next.mp hexec
    exact h
  | tick =>
    obtain ⟨-, -, -, rfl⟩ := execTick_next.mp hexec
    exact clockTick_keeps_blockInv h
  | ovf =>
    obtain ⟨-, ho, rfl⟩ := execOvf_next.mp hexec
    exact handlerInvocation_keeps_blockInv h ho

/-- Settles O38: a step performs an operation, and every operation keeps the invariant. -/
theorem stepKeepsBlockInvariant : Obligations.StepKeepsBlockInvariant := fun _ _ hs h =>
  step_keeps (P := BlockInv) (fun _ ws n hs => blockInv_withOwn hs ws n) (fun _ _ _ => exec_keeps_blockInv) hs h

/-- Settles O39: the invariant holds at the start of a block, and every operation of the run keeps it. -/
theorem everyReachableStateIsGood : Obligations.EveryReachableStateIsGood := fun _ _ hp =>
  runTrace_keeps (P := BlockInv) (fun _ _ _ _ => exec_keeps_blockInv) (blockInv_startState hp)

end Sys2Proof.Machine
end

section
/-! The Waveform Table (spec/20_memory.md): which operations write it, that its list form stays canonical (R60), and the
faults of an invocation whose read of it fails (R61, spec/60_exceptions.md R171 (c), R172). -/

namespace Sys2Proof.Machine

/-! ### Which operations write the table -/

/-- An invocation reads the table and never writes it, whether it loads or faults (R61). -/
theorem handlerInvocation_table (s : State) : (handlerInvocation s).table = s.table := by
  rcases handlerInvocation_cases s with ⟨v, -, he⟩ | ⟨f, -, he⟩ <;> rw [he]
  rw [afterRow_frame]

/-- What each operation leaves in the table: `TGEN` stores one entry, `RESET` empties it, no other operation writes it. -/
theorem exec_table_cases {s t : State} {i : Instr} (h : exec i s = .next t) :
    (∃ n, i = .tgen n ∧ t.table = s.table.write n (s.params.entry n)) ∨
    (i = .reset ∧ t.table = []) ∨
    ((∀ n, i ≠ .tgen n) ∧ i ≠ .reset ∧ t.table = s.table) := by
  cases i with
  | reset =>
    obtain ⟨-, rfl⟩ := execReset_next.mp h
    exact .inr (.inl ⟨rfl, rfl⟩)
  | tgen n =>
    obtain ⟨-, -, -, -, rfl⟩ := execTgen_next.mp h
    exact .inl ⟨n, rfl, rfl⟩
  | cfg =>
    obtain ⟨-, -, -, rfl⟩ := execCfg_next.mp h
    exact .inr (.inr ⟨nofun, nofun, by rw [configure_eq]⟩)
  | sei =>
    obtain ⟨-, -, -, rfl⟩ := execSei_next.mp h
    exact .inr (.inr ⟨nofun, nofun, rfl⟩)
  | idle =>
    obtain ⟨-, -, -, rfl⟩ := execIdle_next.mp h
    exact .inr (.inr ⟨nofun, nofun, rfl⟩)
  | tick =>
    obtain ⟨-, -, -, rfl⟩ := execTick_next.mp h
    exact .inr (.inr ⟨nofun, nofun, by rw [clockTick_frame]⟩)
  | ovf =>
    obtain ⟨-, -, rfl⟩ := execOvf_next.mp h
    exact .inr (.inr ⟨nofun, nofun, handlerInvocation_table s⟩)

/-! ### The canonical form -/

/-- A write and the empty table of `RESET` are in canonical form; every other operation leaves the table as it is. -/
theorem exec_keeps_tableWf {s t : State} {i : Instr} (hs : s.table.wf) (h : exec i s = .next t) : t.table.wf := by
  rcases exec_table_cases h with ⟨n, -, ht⟩ | ⟨-, ht⟩ | ⟨-, -, ht⟩ <;> rw [ht]
  · exact Memory.wf_write hs n _
  · exact Memory.wf_reset
  · exact hs

/-- Settles O36: a step performs an operation, and every operation keeps the canonical form. -/
theorem stepKeepsTheTableCanonical : Obligations.StepKeepsTheTableCanonical := fun _ _ hs h =>
  step_keeps (P := fun s => s.table.wf) (fun _ _ _ hs => hs) (fun _ _ _ => exec_keeps_tableWf) hs h

/-! ### Invocations that fault -/

/-- The index an invocation reads: 0 where the wrap fires, the cursor in the other two rows (R152, R153, R154, R164). -/
theorem afterRow_cursor (s : State) :
    (afterRow s).cursor = if s.pending = false ∧ s.params.h ≤ s.cursor then 0 else s.cursor := by
  rcases afterRow_cases s with ⟨hp, -, he⟩ | ⟨hp, hge, -, he⟩ | ⟨-, hlt, -, he⟩ <;> rw [he]
  · simp [hp]
  · simp [hp, hge]
  · simp [Nat.not_le.mpr hlt]

/-- The row's action has no part in what a read of the table answers. -/
theorem tableRead_afterRow (i : Nat) (s : State) : tableRead i (afterRow s) = tableRead i s := by
  rw [afterRow_frame]
  rfl

/-- An enabled `OVF` whose read faults records the fault, its entry and its row undone (R171 (c)). -/
theorem exec_ovf_of_fault {s : State} {i : Nat} {f : Fault} (hw : s.params.wellFormed = true)
    (ho : ovfEnabled s = true) (hi : (afterRow s).cursor = i) (hf : tableRead i s = .error f) :
    exec .ovf s = .next { s with fault := some f } := by
  refine execOvf_next.mpr ⟨hw, ho, ?_⟩
  have hread : tableRead (afterRow s).cursor (afterRow s) = .error f := by rw [tableRead_afterRow, hi, hf]
  rcases handlerInvocation_cases s with ⟨v, hv, -⟩ | ⟨g, hg, he⟩
  · exact absurd (hv.symm.trans hread) nofun
  · obtain rfl : g = f := Except.error.inj (hg.symm.trans hread)
    exact he.symm

/-- Settles O27: each case is the index its row reads and the fault of that read; entry 0 is always in range. -/
theorem handlerFaultsAreRecorded : Obligations.HandlerFaultsAreRecorded := by
  intro s hw ho
  have hzero : 0 < s.params.h := Nat.lt_of_lt_of_le Nat.two_pos (wellFormed_two_le_h hw)
  refine ⟨fun hp hge => ?_, fun hp hlt hnone => ?_, fun hp hge hnone => ?_, fun hp hlt hnone => ?_⟩
  · have hi : (afterRow s).cursor = s.cursor := by simp [afterRow_cursor, hp]
    exact exec_ovf_of_fault hw ho hi (tableRead_error.mpr (.inl ⟨hge, rfl⟩))
  · have hi : (afterRow s).cursor = s.cursor := by simp [afterRow_cursor, hp]
    exact exec_ovf_of_fault hw ho hi (tableRead_error.mpr (.inr ⟨hlt, hnone, rfl⟩))
  · have hi : (afterRow s).cursor = 0 := by simp [afterRow_cursor, hp, hge]
    exact exec_ovf_of_fault hw ho hi (tableRead_error.mpr (.inr ⟨hzero, hnone, rfl⟩))
  · have hi : (afterRow s).cursor = s.cursor := by simp [afterRow_cursor, Nat.not_le.mpr hlt]
    exact exec_ovf_of_fault hw ho hi (tableRead_error.mpr (.inr ⟨hlt, hnone, rfl⟩))

end Sys2Proof.Machine
end

section
/-! The operation words (spec/30_encoding.md): the fields of a word (R81), the codes (R82), which words decode to which
operation and which are invalid (R89, R90), and what an invalid word does to a schedule and to a trace. -/

namespace Sys2Proof

/-! ### The fields of a word -/

/-- A word is its three fields, high bits first (R81). -/
theorem fields_append (w : OpWord) : opcField w ++ zeroField w ++ idxField w = w := by
  apply BitVec.eq_of_getLsbD_eq
  intro i hi
  simp only [opcField, zeroField, idxField, BitVec.getLsbD_extractLsb', BitVec.getLsbD_append]
  grind

/-- The code field is what stands above bit 27. -/
theorem opcField_toNat (w : OpWord) : (opcField w).toNat = (w >>> 28).toNat := by
  have hw : w.toNat < 2 ^ 32 := w.isLt
  simp only [opcField, BitVec.extractLsb'_toNat, BitVec.toNat_ushiftRight, Nat.shiftRight_eq_div_pow]
  omega

theorem opcField_eq_one_iff (w : OpWord) : opcField w = 1#4 ↔ w >>> 28 = 1#32 := by
  rw [← BitVec.toNat_inj, ← BitVec.toNat_inj, opcField_toNat]
  rfl

theorem zeroField_eq_zero_iff (w : OpWord) : zeroField w = 0#12 ↔ (w >>> 16) &&& 0xFFF#32 = 0#32 := by
  have hmask : (w >>> 16 &&& 0xFFF#32).toNat = (w >>> 16).toNat % 2 ^ 12 := Nat.and_two_pow_sub_one_eq_mod _ 12
  rw [← BitVec.toNat_inj, ← BitVec.toNat_inj, hmask, zeroField, BitVec.extractLsb'_toNat, BitVec.toNat_ushiftRight]
  rfl

theorem idxField_eq_zero_iff (w : OpWord) : idxField w = 0#16 ↔ w &&& 0xFFFF#32 = 0#32 := by
  have hmask : (w &&& 0xFFFF#32).toNat = w.toNat % 2 ^ 16 := Nat.and_two_pow_sub_one_eq_mod _ 16
  rw [← BitVec.toNat_inj, ← BitVec.toNat_inj, hmask, idxField, BitVec.extractLsb'_toNat, Nat.shiftRight_zero]
  rfl

/-- The fields of an operation's word are its code, 0 and its index. -/
theorem fields_encode (i : Instr) : Laws.WordFields.Statement i :=
  Laws.fields_of_append _ _

/-! ### The codes -/

/-- The codes below 7 are the codes of operations (R82). -/
theorem exists_opcodeOf {opc : BitVec 4} (h : opc.toNat < 7) : ∃ i, opcodeOf i = opc := by
  have hcodes : ∀ c : BitVec 4, c.toNat < 7 →
      ∃ i ∈ [Instr.reset, .tgen 0, .cfg, .sei, .idle, .tick, .ovf], opcodeOf i = c := by decide
  obtain ⟨i, -, hi⟩ := hcodes opc h
  exact ⟨i, hi⟩

theorem opcodeOf_lt (i : Instr) : (opcodeOf i).toNat < 7 := by
  cases i <;> simp [opcodeOf]

section

variable {i : Instr} (hplain : ∀ n, i ≠ .tgen n)
include hplain

/-- Every operation but `TGEN` has no operand (R83). -/
theorem indexOf_of_plain : indexOf i = 0 := by
  cases i with
  | tgen n => exact absurd rfl (hplain n)
  | _ => rfl

theorem wellFormed_of_plain : i.wellFormed = true := by
  cases i with
  | tgen n => exact absurd rfl (hplain n)
  | _ => rfl

theorem decodeFields_of_plain (idx : BitVec 16) : decodeFields (opcodeOf i) idx = decodePlain i idx := by
  cases i with
  | tgen n => exact absurd rfl (hplain n)
  | _ => rfl

end

theorem decodeFields_of_tgen (n : Nat) (idx : BitVec 16) :
    decodeFields (opcodeOf (.tgen n)) idx = .op (.tgen idx.toNat) := rfl

theorem decodePlain_eq_op {i j : Instr} {idx : BitVec 16} : decodePlain i idx = .op j ↔ idx = 0 ∧ j = i := by
  unfold decodePlain
  by_cases hidx : idx = 0
  · rw [if_pos hidx, Decoded.op.injEq, eq_comm]
    exact (and_iff_right hidx).symm
  · rw [if_neg hidx]
    exact iff_of_false nofun fun ⟨hz, _⟩ => hidx hz

/-! ### The decoder -/

/-- The decoder looks at the index only where the code is not reserved and the `zero` field is 0 (R89). -/
theorem decode_eq_op {w : OpWord} {i : Instr} :
    decode w = .op i ↔
      (opcField w).toNat < 7 ∧ zeroField w = 0 ∧ decodeFields (opcField w) (idxField w) = .op i := by
  unfold decode
  by_cases hopc : 7 ≤ (opcField w).toNat
  · rw [if_pos hopc]
    exact iff_of_false nofun fun ⟨hlt, _, _⟩ => Nat.not_lt.mpr hopc hlt
  · rw [if_neg hopc]
    by_cases hzero : zeroField w = 0
    · rw [if_pos hzero]
      exact ⟨fun h => ⟨Nat.lt_of_not_le hopc, hzero, h⟩, fun ⟨_, _, h⟩ => h⟩
    · rw [if_neg hzero]
      exact iff_of_false nofun fun ⟨_, hz, _⟩ => hzero hz

/-- A well-formed operation is named by its code and its index, and by nothing else. -/
theorem decodeFields_eq_op {opc : BitVec 4} {idx : BitVec 16} {i : Instr} (hopc : opc.toNat < 7) :
    decodeFields opc idx = .op i ↔ i.wellFormed = true ∧ opc = opcodeOf i ∧ idx = indexOf i := by
  constructor
  · intro h
    obtain ⟨j, rfl⟩ := exists_opcodeOf hopc
    by_cases hj : ∃ n, j = .tgen n
    · obtain ⟨n, rfl⟩ := hj
      obtain rfl : Instr.tgen idx.toNat = i := Decoded.op.inj h
      exact ⟨decide_eq_true idx.isLt, rfl, (BitVec.ofNat_toNat 16 idx).symm⟩
    · have hplain : ∀ n, j ≠ .tgen n := not_exists.mp hj
      obtain ⟨hidx, rfl⟩ := decodePlain_eq_op.mp ((decodeFields_of_plain hplain idx).symm.trans h)
      exact ⟨wellFormed_of_plain hplain, rfl, hidx.trans (indexOf_of_plain hplain).symm⟩
  · rintro ⟨hwf, rfl, rfl⟩
    by_cases hi : ∃ n, i = .tgen n
    · obtain ⟨n, rfl⟩ := hi
      have hn : n < 2 ^ 16 := of_decide_eq_true hwf
      have hindex : (indexOf (.tgen n)).toNat = n := Nat.mod_eq_of_lt hn
      rw [decodeFields_of_tgen, hindex]
    · have hplain : ∀ n, i ≠ .tgen n := not_exists.mp hi
      rw [decodeFields_of_plain hplain, decodePlain_eq_op]
      exact ⟨indexOf_of_plain hplain, rfl⟩

/-- The words that decode to an operation are exactly the encodings of the well-formed operations (R89). -/
theorem decode_eq_op_iff_encode {w : OpWord} {i : Instr} : decode w = .op i ↔ encode i = w ∧ i.wellFormed = true := by
  rw [decode_eq_op]
  constructor
  · rintro ⟨hopc, hzero, h⟩
    obtain ⟨hwf, hcode, hindex⟩ := (decodeFields_eq_op hopc).mp h
    refine ⟨?_, hwf⟩
    calc encode i = opcField w ++ zeroField w ++ idxField w := by rw [hcode, hzero, hindex]; rfl
      _ = w := fields_append w
  · rintro ⟨rfl, hwf⟩
    obtain ⟨hcode, hzero, hindex⟩ := fields_encode i
    rw [hcode]
    exact ⟨opcodeOf_lt i, hzero, (decodeFields_eq_op (opcodeOf_lt i)).mpr ⟨hwf, rfl, hindex⟩⟩

/-- The valid words, field by field: a code below 7, the `zero` field 0, and an index for `TGEN` alone (R81, R89). -/
theorem exists_decode_eq_op_iff (w : OpWord) :
    (∃ i, decode w = .op i) ↔
      (opcField w).toNat < 7 ∧ zeroField w = 0 ∧ (opcField w = 1#4 ∨ idxField w = 0) := by
  simp only [decode_eq_op, exists_and_left]
  refine and_congr_right fun hopc => and_congr_right fun _ => ?_
  obtain ⟨j, hj⟩ := exists_opcodeOf hopc
  rw [← hj]
  by_cases hplain : ∃ n, j = .tgen n
  · obtain ⟨n, rfl⟩ := hplain
    exact iff_of_true ⟨_, decodeFields_of_tgen n _⟩ (.inl rfl)
  · have hcode : opcodeOf j ≠ 1#4 := by
      cases j with
      | tgen n => exact absurd ⟨n, rfl⟩ hplain
      | _ => decide
    simp [decodeFields_of_plain (not_exists.mp hplain), decodePlain_eq_op, hcode]

/-- A word is invalid exactly when it decodes to no operation: the decoder is total (R89). -/
theorem exists_decode_eq_invalid_iff (w : OpWord) :
    (∃ why, decode w = .invalid why) ↔ ¬∃ i, decode w = .op i := by
  cases decode w <;> simp

/-- The reserved codes are named before anything else of the word (R90, notes/assumptions/21.md). -/
theorem decode_of_reserved {w : OpWord} (h : 7 ≤ (opcField w).toNat) : decode w = .invalid .reservedCode := if_pos h

/-! ### Encoded words as numbers -/

/-- The code stands at bit 28, the index at bit 0 (R81). -/
theorem encode_toNat (i : Instr) : (encode i).toNat = (opcodeOf i).toNat * 2 ^ 28 + (indexOf i).toNat := by
  have hi : (indexOf i).toNat < 2 ^ 16 := (indexOf i).isLt
  simp only [encode, BitVec.toNat_append, BitVec.toNat_ofNat, Nat.zero_mod, Nat.or_zero]
  rw [← Nat.shiftLeft_add_eq_or_of_lt hi, ← Nat.shiftLeft_add, Nat.shiftLeft_eq]

theorem encode_tgen {n : Nat} (hn : n < 65536) : encode (.tgen n) = 0x10000000#32 + BitVec.ofNat 32 n := by
  apply BitVec.eq_of_toNat_eq
  rw [encode_toNat, opcodeOf, indexOf]
  simp only [BitVec.toNat_add, BitVec.toNat_ofNat]
  omega

/-- Settles O2: the words without an operand are closed, `TGEN`'s is a sum of two fields, and a reserved code is looked
at first. -/
theorem operationWordsOfTheTable : Obligations.OperationWordsOfTheTable :=
  ⟨rfl, fun _ hn => encode_tgen hn, rfl, rfl, rfl, rfl, rfl, fun w h =>
    decode_of_reserved ((opcField_toNat w).symm ▸ h)⟩

namespace Machine

/-! ### Invalid words in a schedule and in a trace -/

/-- An invalid word stops a run where it stands once what is pending has been taken, like one that is not enabled (R89). -/
theorem performScheduledWord_of_invalid {w : OpWord} {why : DecodeError} {r : Run} (hw : decode w = .invalid why)
    (hr : (takePending r).stopped = none) :
    performScheduledWord w r = { takePending r with stopped := some (.refused (.invalidWord why)) } := by
  simp [performScheduledWord, hw, hr]

theorem step_of_invalid {w : OpWord} {why : DecodeError} {rest : List OpWord} {s : State}
    (hw : decode w = .invalid why) (ht : s.trace = w :: rest) : step s = .refused (.invalidWord why) := by
  simp [step, nextOp, ht, hw]

/-- Settles O1: the words of operations are exactly their encodings, so the two round trips are the two directions of one
equivalence; every other word is invalid, and its fields say why. -/
theorem decodeAndEncodeAreInverse : Obligations.DecodeAndEncodeAreInverse := by
  refine ⟨fun i hi => decode_eq_op_iff_encode.mpr ⟨rfl, hi⟩, fun w i h => decode_eq_op_iff_encode.mp h, fun w => ?_,
    fun w why r hw hr => ?_, fun w why rest s => step_of_invalid⟩
  · rw [exists_decode_eq_invalid_iff, exists_decode_eq_op_iff, ← opcField_toNat, Ne, Ne, Ne, ← opcField_eq_one_iff,
      ← zeroField_eq_zero_iff, ← idxField_eq_zero_iff, not_and_or, not_and_or, not_or, Nat.not_lt]
    rfl
  · rw [performScheduledWord_of_invalid hw hr]
    exact ⟨rfl, rfl⟩

end Machine
end Sys2Proof
end

section
/-! The register number space (spec/30_encoding.md R84, R85): what reading a register gives, and that it fits. -/

namespace Sys2Proof.Machine

/-! ### The named bits of a register as a number -/

/-- A field of the low `n` bits is the remainder by `2 ^ n`. -/
theorem lowField_toNat (v : Reg8) (n : Nat) : (v.extractLsb' 0 n).toNat = v.toNat % 2 ^ n := by
  rw [BitVec.extractLsb'_toNat, Nat.shiftRight_zero]

theorem lowTwoBits_toNat (v : Reg8) : (v &&& 0x03).toNat = v.toNat % 4 :=
  Nat.and_two_pow_sub_one_eq_mod v.toNat 2

theorem lowBit_toNat (v : Reg8) : (v.getLsbD 0).toNat = v.toNat % 2 := by
  rw [BitVec.getLsbD, Nat.toNat_testBit, pow_zero, Nat.div_one]

/-- `GIE` is one bit of state (R37, R84). -/
theorem readReg_gie (s : State) : readReg s .gie = if s.gie = true then 1 else 0 := by
  show s.gie.toNat = _
  cases s.gie <;> rfl

/-! ### Registers by number -/

/-- A number names a register only below 12 (R68). -/
theorem regOfNumber_of_le {n : Nat} (h : 12 ≤ n) : regOfNumber n = none := by
  obtain ⟨m, rfl⟩ := Nat.exists_eq_add_of_le' h
  rfl

theorem regOfNumber_regNumber (r : RegName) : regOfNumber (regNumber r) = some r := by
  cases r <;> rfl

theorem regWidth_eq (p : Params) (r : RegName) :
    regWidth p r = if r = .top ∨ r = .cmpa ∨ r = .cmpb ∨ r = .cnt then p.cw else 8 := by
  cases r <;> simp [regWidth]

/-- The registers of `CW` bits fit by the widths of the state; an 8-bit register is read in a few of its bits. -/
theorem readReg_fits {s : State} (h : WidthOk s) (r : RegName) : readReg s r < 2 ^ regWidth s.params r := by
  obtain ⟨-, ⟨htop, hcnt⟩, ⟨hbufA, hbufB⟩, -⟩ := h
  cases r with
  | top => exact htop
  | cmpa => exact hbufA
  | cmpb => exact hbufB
  | cnt => exact hcnt
  | mode => exact s.wgm.isLt.trans (by simp [regWidth])
  | presc => exact s.cs.isLt.trans (by simp [regWidth])
  | chen => exact s.chenVal.isLt
  | ddr => exact (s.ddr &&& 0x03).isLt
  | tmask => exact s.tmaskVal.isLt
  | ien => exact s.ienOvf.toNat_lt.trans (by simp [regWidth])
  | ifr => exact s.ifrOvf.toNat_lt.trans (by simp [regWidth])
  | gie => exact s.gie.toNat_lt.trans (by simp [regWidth])

/-- Settles O4: the tables of R84, and the named bits of R85 as remainders. -/
theorem registerNumbersAndWidths : Obligations.RegisterNumbersAndWidths :=
  ⟨by decide, regOfNumber_regNumber, fun _ => regOfNumber_of_le, regWidth_eq,
    fun s => ⟨⟨rfl, rfl, rfl, rfl⟩, lowField_toNat s.mode 2, lowField_toNat s.presc 3, lowTwoBits_toNat s.chen,
      lowBit_toNat s.ien, lowBit_toNat s.ifr, lowTwoBits_toNat s.ddr, readReg_gie s, lowTwoBits_toNat s.tmask⟩,
    fun _ r h => readReg_fits h r⟩

end Sys2Proof.Machine
end

section
/-! The widths of the state (spec/10_state.md) and the reserved bits of its registers (spec/30_encoding.md R85): every
operation keeps them, from every state. -/

namespace Sys2Proof.Machine

/-! ### Updates within the widths -/

/-- What a read of the table answers is an entry of the list. -/
theorem Memory.mem_of_read {m : Memory} {i v : Nat} (h : m.read i = some v) : (i, v) ∈ m := by
  induction m with
  | nil => simp [Memory.read] at h
  | cons e rest ih =>
    obtain ⟨j, u⟩ := e
    unfold Memory.read at h
    split at h
    next hj =>
      obtain rfl : u = v := Option.some.inj h
      exact hj ▸ List.mem_cons_self
    next => exact List.mem_cons_of_mem _ (ih h)

/-- A register written with its two named bits only has its reserved bits 0 (R85). -/
theorem reserved_of_namedBits (v : Reg8) : (v &&& 0x03) &&& 0xFC = 0 := by
  rw [BitVec.and_assoc]
  exact BitVec.and_zero

/-- The model's own `trace` and `fresh` have no width. -/
theorem widthOk_withOwn {s : State} (h : WidthOk s) (ws : List OpWord) (n : Nat) :
    WidthOk { s with trace := ws, fresh := n } := h

theorem resetState_widthOk (s : State) : WidthOk (resetState s) :=
  widthOk_withOwn (widthOk_startState s.params) s.trace s.fresh

theorem widthOk_advance {s : State} (h : WidthOk s) (hfgpc : s.fgpc < s.params.h + 2)
    (hw : s.params.wellFormed = true) : WidthOk { s with fgpc := s.fgpc + 1 } := by
  have hh : s.params.h + 3 ≤ 2 ^ s.params.curw := wellFormed_h_fits hw
  obtain ⟨⟨-, hcursor⟩, hrest⟩ := h
  refine ⟨⟨?_, hcursor⟩, hrest⟩
  show s.fgpc + 1 < 2 ^ s.params.curw
  omega

/-- What `TGEN` stores is an entry of the parameter table, which fits (R62). -/
theorem widthOk_tableWrite {s : State} (h : WidthOk s) (hw : s.params.wellFormed = true) (i : Nat) :
    WidthOk { s with table := s.table.write i (s.params.entry i) } := by
  obtain ⟨hcur, hcount, hbuf, hact, htable, hregs⟩ := h
  refine ⟨hcur, hcount, hbuf, hact, fun e he => ?_, hregs⟩
  rcases Memory.mem_write he with rfl | he
  · exact wellFormed_entry_fits hw i
  · exact htable e he

/-- What `CFG` writes: `TOP = M`, which fits (R11), and named bits only (R117). -/
theorem widthOk_contract {s : State} (h : WidthOk s) (hw : s.params.wellFormed = true) :
    WidthOk { s with mode := 1, top := s.params.m, chen := 0b01, tmask := 0b11, presc := 1, ien := 1, ddr := 0b11 } := by
  obtain ⟨hcur, ⟨-, hcnt⟩, hbuf, hact, htable, -, -, hifr, -⟩ := h
  refine ⟨hcur, ⟨wellFormed_fits_m hw, hcnt⟩, hbuf, hact, htable, ?_, ?_, hifr, ?_⟩ <;> simp

/-! ### The counter -/

/-- An arrival moves values from the buffers and sets the one named bit of `IFR`. -/
theorem arriveAt_keeps_widthOk {s : State} (h : WidthOk s) (b : Boundary) : WidthOk (arriveAt b s) := by
  obtain ⟨hcur, hcount, ⟨hbufA, hbufB⟩, ⟨hactA, hactB⟩, htable, hregs, hien, hifr, hddr⟩ := h
  rw [arriveAt_eq]
  refine ⟨hcur, hcount, ⟨hbufA, hbufB⟩, ⟨?_, ?_⟩, htable, hregs, hien, ?_, hddr⟩
  · show fits s.params.cw (if _ then s.cmpaBuf else s.cmpaAct)
    split <;> assumption
  · show fits s.params.cw (if _ then s.cmpbBuf else s.cmpbAct)
    split <;> assumption
  · show (if b = .bottom then 1 else s.ifr) &&& 0xFE = 0
    cases b with
    | bottom => simp
    | top => exact hifr

theorem countUp_keeps_widthOk {s : State} (h : WidthOk s) : WidthOk (countUp s) := by
  obtain ⟨hcur, ⟨htop, -⟩, hrest⟩ := h
  rw [countUp_frame]
  exact ⟨hcur, ⟨htop, countUp_fits s⟩, hrest⟩

theorem countDown_keeps_widthOk {s : State} (h : WidthOk s) : WidthOk (countDown s) := by
  obtain ⟨hcur, ⟨htop, hcnt⟩, hrest⟩ := h
  rw [countDown_frame]
  exact ⟨hcur, ⟨htop, countDown_fits hcnt⟩, hrest⟩

/-- A tick is a count and perhaps an arrival; the direction has no width. -/
theorem clockTick_keeps_widthOk {s : State} (h : WidthOk s) : WidthOk (clockTick s) := by
  rcases clockTick_cases s with ⟨-, he⟩ | ⟨-, -, -, he⟩ | ⟨-, -, -, he⟩ | ⟨-, -, -, he⟩ | ⟨-, -, -, he⟩ <;> rw [he]
  · exact h
  · exact arriveAt_keeps_widthOk (s := { countUp s with dir := .down }) (countUp_keeps_widthOk h) .top
  · exact countUp_keeps_widthOk h
  · exact arriveAt_keeps_widthOk (s := { countDown s with dir := .up }) (countDown_keeps_widthOk h) .bottom
  · exact countDown_keeps_widthOk h

/-! ### The handler -/

/-- The row's action leaves the cursor or clears it, and writes `CHEN` in its named bits only (R152, R153). -/
theorem afterRow_keeps_widthOk {s : State} (h : WidthOk s) : WidthOk (afterRow s) := by
  obtain ⟨⟨hfgpc, hcursor⟩, hcount, hbuf, hact, htable, ⟨hmode, hpresc, hchen, htmask⟩, hien, -, hddr⟩ := h
  rcases afterRow_cases s with ⟨-, -, he⟩ | ⟨-, -, -, he⟩ | ⟨-, -, -, he⟩ <;> rw [he]
  · exact ⟨⟨hfgpc, hcursor⟩, hcount, hbuf, hact, htable, ⟨hmode, hpresc, reserved_of_namedBits _, htmask⟩, hien, BitVec.zero_and, hddr⟩
  · exact ⟨⟨hfgpc, Nat.two_pow_pos _⟩, hcount, hbuf, hact, htable, ⟨hmode, hpresc, hchen, htmask⟩, hien, BitVec.zero_and, hddr⟩
  · exact ⟨⟨hfgpc, hcursor⟩, hcount, hbuf, hact, htable, ⟨hmode, hpresc, hchen, htmask⟩, hien, BitVec.zero_and, hddr⟩

/-- A load gives the buffers an entry of the table, and it leaves the cursor at most `H` (R155, R156). -/
theorem handlerInvocation_keeps_widthOk {s : State} (h : WidthOk s) (hw : s.params.wellFormed = true) :
    WidthOk (handlerInvocation s) := by
  rcases handlerInvocation_cases s with ⟨v, hload, he⟩ | ⟨f, -, he⟩ <;> rw [he]
  · obtain ⟨hlt, hread⟩ := tableRead_ok.mp hload
    have hparams : (afterRow s).params = s.params := by rw [afterRow_frame]
    have hh : (afterRow s).params.h + 3 ≤ 2 ^ (afterRow s).params.curw := wellFormed_h_fits (hparams ▸ hw)
    obtain ⟨⟨hfgpc, -⟩, hcount, -, hact, htable, hregs⟩ := afterRow_keeps_widthOk h
    have hv : fits (afterRow s).params.cw v := htable _ (Memory.mem_of_read hread)
    refine ⟨⟨hfgpc, ?_⟩, hcount, ⟨hv, hv⟩, hact, htable, hregs⟩
    show (afterRow s).cursor + 1 < 2 ^ (afterRow s).params.curw
    omega
  · exact h

/-! ### Every operation and step -/

/-- Every operation keeps every value in its width and the reserved bits 0. -/
theorem exec_keeps_widthOk {s t : State} {i : Instr} (h : WidthOk s) (hexec : exec i s = .next t) : WidthOk t := by
  cases i with
  | reset =>
    obtain ⟨-, rfl⟩ := execReset_next.mp hexec
    exact resetState_widthOk s
  | tgen n =>
    obtain ⟨hw, -, rfl, hlt, rfl⟩ := execTgen_next.mp hexec
    exact widthOk_advance (widthOk_tableWrite h hw s.fgpc) (show s.fgpc < s.params.h + 2 by omega) hw
  | cfg =>
    obtain ⟨hw, -, hfgpc, rfl⟩ := execCfg_next.mp hexec
    rw [configure_eq]
    exact widthOk_advance (widthOk_contract h hw) (show s.fgpc < s.params.h + 2 by omega) hw
  | sei =>
    obtain ⟨hw, -, hfgpc, rfl⟩ := execSei_next.mp hexec
    exact widthOk_advance (s := { s with gie := true }) h (show s.fgpc < s.params.h + 2 by omega) hw
  | idle =>
    obtain ⟨-, -, -, rfl⟩ := execIdle_next.mp hexec
    exact h
  | tick =>
    obtain ⟨-, -, -, rfl⟩ := execTick_next.mp hexec
    exact clockTick_keeps_widthOk h
  | ovf =>
    obtain ⟨hw, -, rfl⟩ := execOvf_next.mp hexec
    exact handlerInvocation_keeps_widthOk h hw

/-- Settles O35: a step performs an operation, and every operation keeps the widths and the reserved bits. -/
theorem stepKeepsWidths : Obligations.StepKeepsWidths := fun _ _ hs h =>
  step_keeps (P := WidthOk) (fun _ ws n hs => widthOk_withOwn hs ws n) (fun _ _ _ => exec_keeps_widthOk) hs h

end Sys2Proof.Machine
end

section
/-! The run of a schedule (spec/30_encoding.md R88): what is pending is taken before each scheduled operation and after
the last, so that no overflow is left to be taken where the run ends. -/

namespace Sys2Proof.Machine

/-! ### One invocation serves its request -/

/-- An invocation clears the flag that asked for it, or it leaves a fault: once is enough (R178, R171). -/
theorem ovfEnabled_handlerInvocation (s : State) : ovfEnabled (handlerInvocation s) = false := by
  rcases handlerInvocation_cases s with ⟨v, -, he⟩ | ⟨f, -, he⟩ <;> rw [he]
  · rw [afterRow_frame]
    simp [ovfEnabled, State.ifrOvf]
  · exact ovfEnabled_of_fault (by simp)

/-! ### Taking what is pending -/

theorem takePending_of_stopped {r : Run} {x : Stop} (h : r.stopped = some x) : takePending r = r := by
  unfold takePending
  split
  · exact perform_of_stopped h
  · rfl

theorem takePending_of_none {r : Run} (ho : ovfEnabled r.state = false) : takePending r = r :=
  if_neg (by simp [ho])

/-- A pending overflow is taken by performing `OVF`, once. -/
theorem takePending_of_pending {r : Run} (hw : r.state.params.wellFormed = true) (hr : r.stopped = none)
    (ho : ovfEnabled r.state = true) :
    takePending r =
      { r with
        state := handlerInvocation r.state, performed := r.performed ++ [.ovf]
        seen := r.seen ++ observe .ovf r.state (handlerInvocation r.state) } :=
  (if_pos ho).trans (perform_of_next hr (execOvf_next.mpr ⟨hw, ho, rfl⟩))

@[simp] theorem takePending_params (r : Run) : (takePending r).state.params = r.state.params := by
  unfold takePending
  split
  · exact perform_params .ovf r
  · rfl

/-- Taking what is pending stops no run of a well-formed block: an enabled `OVF` always has a next state. -/
theorem takePending_stopped {r : Run} (hw : r.state.params.wellFormed = true) : (takePending r).stopped = r.stopped := by
  cases hr : r.stopped with
  | some x => rw [takePending_of_stopped hr, hr]
  | none =>
    cases ho : ovfEnabled r.state with
    | false => rw [takePending_of_none ho, hr]
    | true => rw [takePending_of_pending hw hr ho, hr]

/-- A run that is either still going or was stopped with no overflow to be taken. -/
def Run.Settled (r : Run) : Prop := r.stopped ≠ none → ovfEnabled r.state = false

theorem settled_of_running {r : Run} (hr : r.stopped = none) : r.Settled := fun h => absurd hr h

/-- With what is pending taken, no overflow is to be taken. -/
theorem ovfEnabled_takePending {r : Run} (hw : r.state.params.wellFormed = true) (hs : r.Settled) :
    ovfEnabled (takePending r).state = false := by
  cases ho : ovfEnabled r.state with
  | false => rw [takePending_of_none ho, ho]
  | true =>
    have hr : r.stopped = none := by
      by_contra hstop
      exact Bool.false_ne_true ((hs hstop).symm.trans ho)
    rw [takePending_of_pending hw hr ho]
    exact ovfEnabled_handlerInvocation r.state

/-- Taking what is pending a second time does nothing, not even in an ill-formed block, where the first time is refused. -/
theorem takePending_takePending (r : Run) : takePending (takePending r) = takePending r := by
  cases hr : r.stopped with
  | some x => rw [takePending_of_stopped hr, takePending_of_stopped hr]
  | none =>
    by_cases hw : r.state.params.wellFormed = true
    · exact takePending_of_none (ovfEnabled_takePending hw (settled_of_running hr))
    · cases ho : ovfEnabled r.state with
      | false => rw [takePending_of_none ho, takePending_of_none ho]
      | true =>
        have hrefused : takePending r = { r with stopped := some (.refused .illFormedParameters) } :=
          (if_pos ho).trans (perform_of_refused hr (exec_of_illFormed hw .ovf))
        exact takePending_of_stopped (congrArg Run.stopped hrefused)

/-! ### Scheduled operations -/

/-- What stops a run leaves its state as it is (R88). -/
theorem perform_state_of_stops {i : Instr} {r : Run} (h : (perform i r).stopped ≠ none) :
    (perform i r).state = r.state := by
  unfold perform at h ⊢
  cases hr : r.stopped with
  | some x => rfl
  | none =>
    cases he : exec i r.state with
    | next t => simp [hr, he] at h
    | fault f => rfl
    | refused x => rfl

theorem performScheduled_of_stopped {i : Instr} {r : Run} {x : Stop} (h : r.stopped = some x) :
    performScheduled i r = r := by
  rw [performScheduled, takePending_of_stopped h, perform_of_stopped h]

/-- A scheduled operation that stops the run does so after what was pending has been taken. -/
theorem performScheduled_settled {i : Instr} {r : Run} (hw : r.state.params.wellFormed = true) (hs : r.Settled) :
    (performScheduled i r).Settled := by
  intro hstop
  rw [performScheduled, perform_state_of_stops hstop]
  exact ovfEnabled_takePending hw hs

/-- A scheduled `OVF` is never enabled by then (R88). -/
theorem performScheduled_ovf {r : Run} (hw : r.state.params.wellFormed = true) (hr : r.stopped = none) :
    performScheduled .ovf r = { takePending r with stopped := some (.refused (.notEnabled "OVF")) } :=
  perform_of_refused ((takePending_stopped hw).trans hr)
    (exec_ovf_of_not_enabled ((takePending_params r).symm ▸ hw) (ovfEnabled_takePending hw (settled_of_running hr)))

/-! ### The run of a schedule -/

/-- Every scheduled operation keeps the parameters, and a stop with no overflow to be taken. -/
theorem foldl_performScheduled_settled (ops : List Instr) {s : State} (hw : s.params.wellFormed = true) :
    (ops.foldl (fun r i => performScheduled i r) (Run.start s)).state.params.wellFormed = true ∧
      (ops.foldl (fun r i => performScheduled i r) (Run.start s)).Settled := by
  refine List.foldlRecOn (motive := fun r : Run => r.state.params.wellFormed = true ∧ r.Settled) ops _
    ⟨hw, settled_of_running rfl⟩ fun r ⟨hr, hs⟩ i _ => ⟨?_, performScheduled_settled hr hs⟩
  rwa [performScheduled, perform_params, takePending_params]

theorem runSchedule_append (ops : List Instr) (i : Instr) (s : State) :
    runSchedule (ops ++ [i]) s = takePending (performScheduled i (runSchedule ops s)) := by
  simp only [runSchedule, List.foldl_append, List.foldl_cons, List.foldl_nil, performScheduled, takePending_takePending]

/-- No schedule of a well-formed block ends with an overflow to be taken, stopped or not. -/
theorem ovfEnabled_runSchedule (ops : List Instr) {s : State} (hw : s.params.wellFormed = true) :
    ovfEnabled (runSchedule ops s).state = false :=
  have ⟨hr, hs⟩ := foldl_performScheduled_settled ops hw
  ovfEnabled_takePending hr hs

/-- Settles O48: taking what is pending is one `OVF` or nothing, and a run stops only after it. -/
theorem scheduleTakesPendingOverflows : Obligations.ScheduleTakesPendingOverflows := by
  refine ⟨fun r hw hr => ⟨takePending_of_none, fun ho => ?_, ovfEnabled_takePending hw (settled_of_running hr),
      fun i => ⟨fun t ht => ?_, fun x hx => ?_, ?_⟩⟩,
    fun r i x hr => ⟨performScheduled_of_stopped hr, takePending_of_stopped hr⟩, fun s => rfl, runSchedule_append,
    fun ops s => ovfEnabled_runSchedule ops⟩
  · rw [takePending_of_pending hw hr ho]
    exact ⟨execOvf_next.mpr ⟨hw, ho, rfl⟩, hr, rfl, rfl⟩
  · have hgoing : (takePending r).stopped = none := (takePending_stopped hw).trans hr
    rw [performScheduled, perform_of_next hgoing ht, hgoing]
  · exact perform_of_refused ((takePending_stopped hw).trans hr) hx
  · rintro rfl
    rw [performScheduled_ovf hw hr]

end Sys2Proof.Machine
end

section
/-! The table operations (spec/40_table_generation.md R105, R106): what `TGEN` stores and when it is enabled, and that
the table is complete and the block configured once interrupts are unmasked. -/

namespace Sys2Proof.Machine

/-- A `TGEN` that is not enabled is refused in a well-formed block (R171 (b)). -/
theorem exec_tgen_of_not_enabled {s : State} {i : Nat} (hw : s.params.wellFormed = true) (he : enabledTgen i s = false) :
    exec (.tgen i) s = .refused (.notEnabled "TGEN") := by
  show ifWellFormed s (ifEnabled _ (enabledTgen i s) _) = _
  rw [ifWellFormed_of hw, he]
  rfl

/-- With no overflow to be taken, `TGEN i` is enabled exactly as R105 says. -/
theorem enabledTgen_iff_of_not_ovf {s : State} {i : Nat} (ho : ovfEnabled s = false) :
    enabledTgen i s = true ↔ s.fault = none ∧ s.fgpc = i ∧ i < s.params.h := by
  simp [enabledTgen_iff, mayRun_iff, ho]

/-- Settles O13: an enabled `TGEN i` is one write of the entry that `TABLE` lists at `i`. -/
theorem tgenStoresItsEntry : Obligations.TgenStoresItsEntry := by
  intro s i hw ho
  refine ⟨fun h => ?_, fun h => ?_⟩
  · obtain ⟨hfault, hfgpc, hi⟩ := h
    refine ⟨_, s.params.entry i, execTgen_next.mpr ⟨hw, mayRun_iff.mpr ⟨hfault, ho⟩, hfgpc, hi, rfl⟩,
      wellFormed_entry_eq hw hi, wellFormed_entry_fits hw i, ?_, fun j hj => ?_, rfl⟩
    · exact (Memory.read_write _ _ _ _).trans (if_pos rfl)
    · exact (Memory.read_write _ _ _ _).trans (if_neg hj)
  · rw [← enabledTgen_iff_of_not_ovf ho, Bool.not_eq_true] at h
    exact exec_tgen_of_not_enabled hw h

/-- Once `FGPC` has passed `H`, the table is complete and the block configured (R46 (c), (g)). -/
theorem tableComplete_of_fgpc {s : State} (h : BlockInv s) (hlt : s.params.h < s.fgpc) :
    (∀ i < s.params.h, s.table.read i = some (s.params.entry i)) ∧ Configured s := by
  obtain ⟨-, -, -, ⟨-, -, hread⟩, -, -, -, -, hconf, -, -⟩ := h
  exact ⟨fun i hi => (hread i hi).trans (if_pos (hi.trans hlt)), (hconf hlt).1⟩

/-- Interrupts are unmasked only at the last value of `FGPC` (R46). -/
theorem fgpc_of_gie {s : State} (h : BlockInv s) (hgie : s.gie = true) : s.fgpc = s.params.h + 2 := by
  obtain ⟨-, -, -, -, -, -, -, -, -, hiff, -⟩ := h
  exact hiff.mp hgie

/-- Settles O19: `SEI` keeps the table and the registers but `GIE`; after it `FGPC` is past every index and past `H`. -/
theorem seiAfterTableAndConfiguration : Obligations.SeiAfterTableAndConfiguration := by
  intro s t hs hexec
  obtain ⟨-, -, hfgpc, rfl⟩ := execSei_next.mp hexec
  obtain ⟨hread, hconf⟩ := tableComplete_of_fgpc hs (by omega)
  refine ⟨hread, hconf, fun u hu hgie _ => ?_⟩
  have hlast : u.fgpc = u.params.h + 2 := fgpc_of_gie hu hgie
  refine ⟨fun i v htgen => ?_, fun v hcfg => ?_⟩
  · obtain ⟨-, -, hi, hlt, -⟩ := execTgen_next.mp htgen
    omega
  · obtain ⟨-, -, hh, -⟩ := execCfg_next.mp hcfg
    omega

end Sys2Proof.Machine
end

section
/-! The exact table (spec/40_table_generation.md R101 to R104): the sine at an index, why counting right angles compares it
with a fraction, and what follows for the computed, the reference and the listed tables. -/

namespace Sys2Proof.Machine

open Real

/-! ### The sine at an index -/

/-- `amplitude(i) = sin (2 pi i / N)` (R101). -/
noncomputable def amplitude (n i : ℕ) : ℝ := sin (2 * π * (i : ℝ) / (n : ℝ))

/-- The index mirrored into the rising half of the table (R104 (c)). -/
def mirror (n i : ℕ) : ℕ := min i (n / 2 - i)

theorem four_mul_mirror_le (n i : ℕ) : 4 * mirror n i ≤ n := by
  unfold mirror
  omega

theorem mirror_of_le {n i : ℕ} (h : 4 * i ≤ n) : mirror n i = i := by
  unfold mirror
  omega

theorem amplitude_zero (n : ℕ) : amplitude n 0 = 0 := by simp [amplitude]

/-- At a quarter of the cycle the sine is 1. -/
theorem amplitude_quarter {n i : ℕ} (hi : 0 < i) (h : n = 4 * i) : amplitude n i = 1 := by
  have hx : 2 * π * (i : ℝ) / (n : ℝ) = π / 2 := by
    subst h
    push_cast
    field_simp
    norm_num
  rw [amplitude, hx, sin_pi_div_two]

/-- `sin (pi - x) = sin x` at the indices (R104 (c)). -/
theorem amplitude_half_sub {n i : ℕ} (hn : n % 2 = 0) (hpos : 0 < n) (hi : 2 * i ≤ n) :
    amplitude n (n / 2 - i) = amplitude n i := by
  obtain ⟨h, rfl⟩ : ∃ h, n = 2 * h := ⟨n / 2, by omega⟩
  have hh : (h : ℝ) ≠ 0 := by
    have : h ≠ 0 := by omega
    exact_mod_cast this
  have hx : 2 * π * ((2 * h / 2 - i : ℕ) : ℝ) / ((2 * h : ℕ) : ℝ) = π - 2 * π * (i : ℝ) / ((2 * h : ℕ) : ℝ) := by
    rw [Nat.mul_div_cancel_left h two_pos, Nat.cast_sub (by omega)]
    push_cast
    field_simp
  rw [amplitude, hx, sin_pi_sub, amplitude]

theorem amplitude_mirror {n i : ℕ} (hn : n % 2 = 0) (hpos : 0 < n) (hi : 2 * i ≤ n) :
    amplitude n (mirror n i) = amplitude n i := by
  rcases min_choice i (n / 2 - i) with h | h
  · rw [mirror, h]
  · rw [mirror, h, amplitude_half_sub hn hpos hi]

/-- R102's form of being exact, at the sine of R101. -/
theorem isTexact_iff {n m i t : ℕ} :
    IsTexact n m i t ↔ (t : ℝ) - 1 / 2 ≤ m * amplitude n i ∧ m * amplitude n i < t + 1 / 2 := Iff.rfl

/-- In the rising half the sine is the cosine of what is left to a right angle, in `n`-ths of one. -/
theorem amplitude_eq_cos {n i : ℕ} (hpos : 0 < n) (hi : 4 * i ≤ n) :
    amplitude n i = cos (((n - 4 * i : ℕ) : ℝ) * (π / 2) / (n : ℝ)) := by
  have hn : (n : ℝ) ≠ 0 := by exact_mod_cast hpos.ne'
  have hx : ((n - 4 * i : ℕ) : ℝ) * (π / 2) / (n : ℝ) = π / 2 - 2 * π * (i : ℝ) / (n : ℝ) := by
    rw [Nat.cast_sub hi]
    push_cast
    field_simp
    ring
  rw [hx, cos_pi_div_two_sub, amplitude]

/-- The sine rises up to a quarter of the cycle (R104 (d)). -/
theorem amplitude_lt {n i j : ℕ} (hij : i < j) (hj : 4 * j ≤ n) : amplitude n i < amplitude n j := by
  have hn : (0 : ℝ) < n := by exact_mod_cast (by omega : 0 < n)
  have hlt : (i : ℝ) < j := by exact_mod_cast hij
  have hle : 4 * (j : ℝ) ≤ n := by exact_mod_cast hj
  refine sin_lt_sin_of_lt_of_le_pi_div_two ?_ ?_ ?_
  · have : 0 ≤ 2 * π * (i : ℝ) / n := by positivity
    linarith [pi_pos]
  · rw [div_le_iff₀ hn]
    nlinarith [pi_pos]
  · have := pi_pos
    gcongr

theorem amplitude_le {n i j : ℕ} (hij : i ≤ j) (hj : 4 * j ≤ n) : amplitude n i ≤ amplitude n j := by
  rcases hij.eq_or_lt with rfl | h
  · exact le_rfl
  · exact (amplitude_lt h hj).le

/-- Which of two indices has the greater sine is decided by their mirrored indices (R104 (c), (d)). -/
theorem amplitude_le_of_mirror {n i j : ℕ} (hn : n % 2 = 0) (hpos : 0 < n) (hi : 2 * i ≤ n) (hj : 2 * j ≤ n)
    (h : mirror n i ≤ mirror n j) : amplitude n i ≤ amplitude n j := by
  rw [← amplitude_mirror hn hpos hi, ← amplitude_mirror hn hpos hj]
  exact amplitude_le h (four_mul_mirror_le n j)

theorem amplitude_nonneg {n i : ℕ} (hn : n % 2 = 0) (hpos : 0 < n) (hi : 2 * i ≤ n) : 0 ≤ amplitude n i := by
  rw [← amplitude_zero n, ← amplitude_mirror hn hpos hi]
  exact amplitude_le (Nat.zero_le _) (four_mul_mirror_le n i)

theorem amplitude_le_one (n i : ℕ) : amplitude n i ≤ 1 := sin_le_one _

/-- The sine is 1 at `N / 4` and at no other index (R104 (e)). -/
theorem amplitude_eq_one_iff {n i : ℕ} (hn : n % 4 = 0) (hpos : 0 < n) (hi : 2 * i ≤ n) :
    amplitude n i = 1 ↔ i = n / 4 := by
  have hquarter : amplitude n (n / 4) = 1 := amplitude_quarter (by omega) (by omega)
  refine ⟨fun h => ?_, fun h => h ▸ hquarter⟩
  by_contra hne
  have hm : mirror n i < n / 4 := by
    unfold mirror
    omega
  have hlt : amplitude n (mirror n i) < amplitude n (n / 4) := amplitude_lt hm (by omega)
  rw [amplitude_mirror (by omega) hpos hi, h, hquarter] at hlt
  exact lt_irrefl _ hlt

/-! ### Powers turned back into the first quadrant

A `Turn` stands for the complex number `re + im * I`; `α` is the argument of the base `a + r * I`, `b` its modulus. -/

/-- The real part of what is left after turning back. -/
noncomputable def Turn.re (r : ℝ) (t : Turn) : ℝ := if t.q % 2 = 0 then t.u else t.u * r

/-- The imaginary part of what is left after turning back. -/
noncomputable def Turn.im (r : ℝ) (t : Turn) : ℝ := if t.q % 2 = 0 then t.v * r else t.v

/-- One more factor is a product of complex numbers, divided by `I` when its real part is not positive. -/
theorem nextTurn_cases {a d : ℕ} {r : ℝ} (hr : 0 < r) (hd : r * r = d) (t : Turn) :
    (0 < a * t.re r - r * t.im r ∧ (nextTurn a d t).q = t.q ∧
      (nextTurn a d t).re r = a * t.re r - r * t.im r ∧ (nextTurn a d t).im r = a * t.im r + r * t.re r) ∨
    (a * t.re r - r * t.im r ≤ 0 ∧ (nextTurn a d t).q = t.q + 1 ∧
      (nextTurn a d t).re r = a * t.im r + r * t.re r ∧ (nextTurn a d t).im r = -(a * t.re r - r * t.im r)) := by
  by_cases hq : t.q % 2 = 0
  · have hq' : ¬(t.q + 1) % 2 = 0 := by omega
    by_cases hlt : d * t.v < a * t.u
    · have hlt' : (d : ℝ) * t.v < a * t.u := by exact_mod_cast hlt
      refine .inl ⟨?_, ?_⟩
      · simp only [Turn.re, Turn.im, hq, if_true]
        nlinarith
      · simp only [nextTurn, Turn.re, Turn.im, hq, hlt, if_true, true_and, Nat.cast_sub hlt.le]
        push_cast
        rw [← hd]
        constructor <;> ring
    · have hge : a * t.u ≤ d * t.v := not_lt.mp hlt
      have hge' : (a : ℝ) * t.u ≤ d * t.v := by exact_mod_cast hge
      refine .inr ⟨?_, ?_⟩
      · simp only [Turn.re, Turn.im, hq, if_true]
        nlinarith
      · simp only [nextTurn, Turn.re, Turn.im, hq, hq', hlt, if_true, if_false, true_and, Nat.cast_sub hge]
        push_cast
        rw [← hd]
        constructor <;> ring
  · have hq' : (t.q + 1) % 2 = 0 := by omega
    by_cases hlt : t.v < a * t.u
    · have hlt' : (t.v : ℝ) < a * t.u := by exact_mod_cast hlt
      refine .inl ⟨?_, ?_⟩
      · simp only [Turn.re, Turn.im, hq, if_false]
        nlinarith
      · simp only [nextTurn, Turn.re, Turn.im, hq, hlt, if_true, if_false, true_and, Nat.cast_sub hlt.le]
        push_cast
        rw [← hd]
        constructor <;> ring
    · have hge : a * t.u ≤ t.v := not_lt.mp hlt
      have hge' : (a : ℝ) * t.u ≤ t.v := by exact_mod_cast hge
      refine .inr ⟨?_, ?_⟩
      · simp only [Turn.re, Turn.im, hq, if_false]
        nlinarith
      · simp only [nextTurn, Turn.re, Turn.im, hq, hq', hlt, if_true, if_false, true_and, Nat.cast_sub hge]
        push_cast
        rw [← hd]
        constructor <;> ring

/-- `t` is the `j`-th power of the number with modulus `b` and argument `α`, turned back by `t.q` right angles into the
first quadrant. -/
structure Turn.IsPower (t : Turn) (b α : ℝ) (j : ℕ) : Prop where
  re_eq : t.re (b * sin α) = b ^ j * cos (j * α - t.q * (π / 2))
  im_eq : t.im (b * sin α) = b ^ j * sin (j * α - t.q * (π / 2))
  angle_nonneg : 0 ≤ j * α - t.q * (π / 2)
  angle_lt : j * α - t.q * (π / 2) < π / 2

/-- One more factor turns by less than a right angle, so the sign of the real part tells whether one has been passed. -/
theorem Turn.IsPower.next {t : Turn} {a d j : ℕ} {b α : ℝ} (h : t.IsPower b α j) (hb : 0 < b) (h0 : 0 < α)
    (h1 : α < π / 2) (ha : (a : ℝ) = b * cos α) (hd : b * sin α * (b * sin α) = d) :
    (nextTurn a d t).IsPower b α (j + 1) := by
  obtain ⟨hre, him, hnonneg, hlt⟩ := h
  have hr : 0 < b * sin α := mul_pos hb (sin_pos_of_pos_of_lt_pi h0 (by linarith))
  have hbj : 0 < b ^ (j + 1) := pow_pos hb _
  set θ : ℝ := j * α - t.q * (π / 2) with hθ
  have hstay : ((j + 1 : ℕ) : ℝ) * α - t.q * (π / 2) = θ + α := by push_cast; ring
  have hpass : ((j + 1 : ℕ) : ℝ) * α - ((t.q + 1 : ℕ) : ℝ) * (π / 2) = θ + α - π / 2 := by push_cast; ring
  have hcos : a * t.re (b * sin α) - b * sin α * t.im (b * sin α) = b ^ (j + 1) * cos (θ + α) := by
    rw [hre, him, ha, cos_add]
    ring
  have hsin : a * t.im (b * sin α) + b * sin α * t.re (b * sin α) = b ^ (j + 1) * sin (θ + α) := by
    rw [hre, him, ha, sin_add]
    ring
  rcases nextTurn_cases (a := a) hr hd t with ⟨hpos, hq, hre', him'⟩ | ⟨hneg, hq, hre', him'⟩
  · rw [hcos] at hpos hre'
    rw [hsin] at him'
    have hangle : θ + α < π / 2 := by
      by_contra hge
      have : cos (θ + α) ≤ 0 := cos_nonpos_of_pi_div_two_le_of_le (not_lt.mp hge) (by linarith)
      exact absurd hpos (not_lt.mpr (mul_nonpos_of_nonneg_of_nonpos hbj.le this))
    constructor <;> rw [hq, hstay]
    · exact hre'
    · exact him'
    · linarith
    · exact hangle
  · rw [hcos] at hneg him'
    rw [hsin] at hre'
    have hangle : π / 2 ≤ θ + α := by
      by_contra hlt'
      have : 0 < cos (θ + α) := cos_pos_of_mem_Ioo ⟨by linarith, not_le.mp hlt'⟩
      exact absurd hneg (not_le.mpr (mul_pos hbj this))
    constructor <;> rw [hq, hpass]
    · rw [hre', cos_sub_pi_div_two]
    · rw [him', sin_sub_pi_div_two, mul_neg]
    · linarith
    · linarith

/-- `turns` computes the powers. -/
theorem turns_isPower {a d : ℕ} {b α : ℝ} (hb : 0 < b) (h0 : 0 < α) (h1 : α < π / 2) (ha : (a : ℝ) = b * cos α)
    (hd : b * sin α * (b * sin α) = d) (j : ℕ) : (turns a d j).IsPower b α j := by
  induction j with
  | zero => constructor <;> simp [turns, Turn.re, Turn.im, pi_pos]
  | succ j ih => exact ih.next hb h0 h1 ha hd

/-- The number of right angles that `n` times the arc cosine of `a / b` passes, as `turns` counts them. -/
theorem turns_q_lt_iff {a b n k : ℕ} (ha : 0 < a) (hab : a < b) :
    (turns a (b * b - a * a) n).q < k ↔ n * arccos (a / b : ℝ) < k * (π / 2) := by
  have ha' : (0 : ℝ) < a := by exact_mod_cast ha
  have hab' : (a : ℝ) < b := by exact_mod_cast hab
  have hb' : (0 : ℝ) < b := ha'.trans hab'
  have hlt_one : (a / b : ℝ) < 1 := (div_lt_one hb').mpr hab'
  have hpos : (0 : ℝ) < a / b := div_pos ha' hb'
  have hcos : (a : ℝ) = b * cos (arccos (a / b)) := by
    rw [cos_arccos (by linarith) hlt_one.le]
    field_simp
  have hd : b * sin (arccos (a / b : ℝ)) * (b * sin (arccos (a / b))) = ((b * b - a * a : ℕ) : ℝ) := by
    rw [Nat.cast_sub (Nat.mul_self_le_mul_self hab.le)]
    push_cast
    linear_combination (b : ℝ) * b * sin_sq_add_cos_sq (arccos (a / b : ℝ))
      + (a + b * cos (arccos (a / b : ℝ))) * hcos
  obtain ⟨-, -, hnonneg, hlt⟩ :=
    turns_isPower hb' (arccos_pos.mpr hlt_one) (arccos_lt_pi_div_two.mpr hpos) hcos hd n
  constructor
  · intro h
    have : ((turns a (b * b - a * a) n).q : ℝ) + 1 ≤ k := by exact_mod_cast h
    nlinarith [pi_pos]
  · intro h
    have : ((turns a (b * b - a * a) n).q : ℝ) < k := by nlinarith [pi_pos]
    exact_mod_cast this

/-- What the model's comparison decides. -/
theorem sineBelow_iff {n i a b : ℕ} (hn : n % 2 = 0) (hpos : 0 < n) (hi : 2 * i ≤ n) (ha : 0 < a) (hab : a < b) :
    sineBelow n i a b = true ↔ amplitude n i < a / b := by
  have hn' : (0 : ℝ) < n := by exact_mod_cast hpos
  have hb' : (0 : ℝ) < b := by exact_mod_cast ha.trans hab
  have hlt_one : (a / b : ℝ) < 1 := (div_lt_one hb').mpr (by exact_mod_cast hab)
  have hnonneg : (0 : ℝ) ≤ a / b := by positivity
  have hangle : ((n - 4 * mirror n i : ℕ) : ℝ) * (π / 2) / n ≤ π := by
    have : ((n - 4 * mirror n i : ℕ) : ℝ) ≤ n := by exact_mod_cast Nat.sub_le _ _
    rw [div_le_iff₀ hn']
    nlinarith [pi_pos]
  calc sineBelow n i a b = true
      ↔ (turns a (b * b - a * a) n).q < n - 4 * mirror n i := decide_eq_true_iff
    _ ↔ n * arccos (a / b : ℝ) < ((n - 4 * mirror n i : ℕ) : ℝ) * (π / 2) := turns_q_lt_iff ha hab
    _ ↔ arccos (a / b : ℝ) < ((n - 4 * mirror n i : ℕ) : ℝ) * (π / 2) / n := by rw [lt_div_iff₀' hn']
    _ ↔ cos (((n - 4 * mirror n i : ℕ) : ℝ) * (π / 2) / n) < cos (arccos (a / b)) :=
        (strictAntiOn_cos.lt_iff_gt ⟨by positivity, hangle⟩ ⟨arccos_nonneg _, arccos_le_pi _⟩).symm
    _ ↔ amplitude n i < a / b := by
        rw [← amplitude_eq_cos hpos (four_mul_mirror_le n i), amplitude_mirror hn hpos hi,
          cos_arccos (by linarith) hlt_one.le]

/-- The comparison with a half-way point between two counts. -/
theorem sineBelow_halfway_iff {n m i k : ℕ} (hn : n % 2 = 0) (hpos : 0 < n) (hi : 2 * i ≤ n) (hk : 0 < k)
    (hkm : k < 2 * m) : sineBelow n i k (2 * m) = true ↔ m * amplitude n i < k / 2 := by
  have hm : (0 : ℝ) < m := by exact_mod_cast (by omega : 0 < m)
  rw [sineBelow_iff hn hpos hi hk hkm, Nat.cast_mul, Nat.cast_two, lt_div_iff₀ (by positivity), lt_div_iff₀ two_pos]
  constructor <;> intro h <;> linarith

/-! ### The computed table -/

/-- Bisection finds the cut `c` of a condition that holds up to `c` and not beyond. -/
theorem bisect_eq {ok : ℕ → Bool} {m c : ℕ} (hc : c ≤ m) (hok : ∀ t, 0 < t → t ≤ m → (ok t = true ↔ t ≤ c)) :
    ∀ bits lo, lo ≤ c → c < lo + 2 ^ bits → bisect ok m bits lo = c := by
  intro bits
  induction bits with
  | zero =>
    intro lo hlo hlt
    rw [bisect]
    omega
  | succ bits ih =>
    intro lo hlo hlt
    have hstep : 0 < 2 ^ bits := Nat.two_pow_pos bits
    have htwice : 2 ^ (bits + 1) = 2 * 2 ^ bits := Nat.pow_succ'
    have hcond : lo + 2 ^ bits ≤ m ∧ ok (lo + 2 ^ bits) = true ↔ lo + 2 ^ bits ≤ c :=
      ⟨fun ⟨hle, h⟩ => (hok _ (by omega) hle).mp h, fun h => ⟨h.trans hc, (hok _ (by omega) (h.trans hc)).mpr h⟩⟩
    rw [bisect]
    split
    next h => exact ih _ (hcond.mp h) (by omega)
    next h => exact ih _ hlo (by rw [hcond] at h; omega)

/-- The exact entry is at most `M` (R104 (a)). -/
theorem floor_amplitude_le (n m i : ℕ) : ⌊m * amplitude n i + 1 / 2⌋₊ ≤ m := by
  have h : m * amplitude n i ≤ m := mul_le_of_le_one_right (Nat.cast_nonneg m) (amplitude_le_one n i)
  rw [← Nat.lt_succ_iff, Nat.floor_lt' (Nat.succ_ne_zero m)]
  push_cast
  linarith

section

variable {n m i : ℕ} (hn : n % 2 = 0) (hpos : 0 < n) (hi : 2 * i ≤ n)
include hn hpos hi

theorem mul_amplitude_nonneg : 0 ≤ m * amplitude n i :=
  mul_nonneg (Nat.cast_nonneg m) (amplitude_nonneg hn hpos hi)

/-- The computed entry is the exact one (R101). -/
theorem texact_eq_floor : texact n m i = ⌊m * amplitude n i + 1 / 2⌋₊ := by
  have hx : 0 ≤ m * amplitude n i := mul_amplitude_nonneg hn hpos hi
  have hc : ⌊m * amplitude n i + 1 / 2⌋₊ ≤ m := floor_amplitude_le n m i
  refine bisect_eq hc (fun t ht htm => ?_) _ _ (Nat.zero_le _) ?_
  · rw [Bool.not_eq_true', ← Bool.not_eq_true, sineBelow_halfway_iff hn hpos hi (by omega) (by omega), not_lt,
      Nat.le_floor_iff (by linarith), Nat.cast_sub (by omega)]
    push_cast
    constructor <;> intro h <;> linarith
  · rw [Nat.zero_add]
    exact hc.trans_lt Nat.lt_log2_self

/-- The computed entry is within one half of the scaled sine, a tie rounded upward (R102). -/
theorem isTexact_texact : IsTexact n m i (texact n m i) := by
  have hx : 0 ≤ m * amplitude n i := mul_amplitude_nonneg hn hpos hi
  obtain ⟨hle, hlt⟩ := (Nat.floor_eq_iff (by linarith)).mp (texact_eq_floor (m := m) hn hpos hi).symm
  rw [isTexact_iff]
  constructor <;> linarith

/-- The error is at most one half (R104 (g)). -/
theorem abs_texact_sub_le : |(texact n m i : ℝ) - m * amplitude n i| ≤ 1 / 2 := by
  obtain ⟨hle, hlt⟩ := isTexact_iff.mp (isTexact_texact (m := m) hn hpos hi)
  rw [abs_le]
  constructor <;> linarith

theorem texact_eq_int_floor : (texact n m i : ℤ) = ⌊m * amplitude n i + 1 / 2⌋ := by
  have hx : 0 ≤ m * amplitude n i := mul_amplitude_nonneg hn hpos hi
  rw [texact_eq_floor hn hpos hi, Int.natCast_floor_eq_floor (by linarith)]

/-- An entry is the rounding of the scaled sine, so it depends on the sine alone and rises with it. -/
theorem texact_le_texact {j : ℕ} (hj : 2 * j ≤ n) (h : mirror n i ≤ mirror n j) : texact n m i ≤ texact n m j := by
  have hle : amplitude n i ≤ amplitude n j := amplitude_le_of_mirror hn hpos hi hj h
  rw [texact_eq_floor hn hpos hi, texact_eq_floor hn hpos hj]
  gcongr

theorem texact_eq_of_mirror {j : ℕ} (hj : 2 * j ≤ n) (h : mirror n i = mirror n j) : texact n m i = texact n m j :=
  le_antisymm (texact_le_texact hn hpos hi hj h.le) (texact_le_texact hn hpos hj hi h.ge)

theorem texact_le : texact n m i ≤ m := (texact_eq_floor hn hpos hi).trans_le (floor_amplitude_le n m i)

end

theorem texact_zero {n : ℕ} (m : ℕ) (hn : n % 2 = 0) (hpos : 0 < n) : texact n m 0 = 0 := by
  rw [texact_eq_floor hn hpos (Nat.zero_le n), amplitude_zero]
  norm_num

theorem texact_quarter {n : ℕ} (m : ℕ) (hn : n % 4 = 0) (hpos : 0 < n) : texact n m (n / 4) = m := by
  rw [texact_eq_floor (by omega) hpos (by omega), amplitude_quarter (by omega) (by omega), mul_one,
    Nat.floor_eq_iff (by positivity)]
  constructor <;> linarith

/-! ### The statements about the computed table -/

/-- The tie of R102: `sin (pi / 6) = 1/2`. -/
theorem amplitude_twelve_one : amplitude 12 1 = 1 / 2 := by
  have hx : 2 * π * ((1 : ℕ) : ℝ) / ((12 : ℕ) : ℝ) = π / 6 := by
    push_cast
    ring
  rw [amplitude, hx, sin_pi_div_six]

theorem defaultParams_table_getElem? {fClk fOut n i : ℕ} (hi : i < n / 2) :
    (defaultParams fClk fOut n).table[i]? = some (texact n (fClk / (fOut * n)) i) := by
  simp [defaultParams, hi]

/-- Settles O49: the computed entry is the floor that R101 names, and the floor is the one integer that R102 names. -/
theorem computedTableIsExact : Obligations.ComputedTableIsExact := by
  refine ⟨fun n m i hn hn4 _ hi => ?_, ⟨?_, ?_⟩, fun fClk fOut n i => defaultParams_table_getElem?⟩
  · have hpos : 0 < n := by omega
    have hfloor : (texact n m i : ℤ) = ⌊m * amplitude n i + 1 / 2⌋ := texact_eq_int_floor hn hpos hi.le
    refine ⟨hfloor, texact_le hn hpos hi.le, isTexact_texact hn hpos hi.le, fun t hle hlt => ?_⟩
    change _ ≤ m * amplitude n i at hle
    change m * amplitude n i < _ at hlt
    rw [hfloor, eq_comm, Int.floor_eq_iff]
    constructor <;> linarith
  · rw [texact_eq_floor (by decide) (by decide) (by decide), amplitude_twelve_one]
    norm_num
  · have h : sin (2 * π * 1 / 12) = 1 / 2 := by
      simpa only [amplitude, Nat.cast_one, Nat.cast_ofNat] using amplitude_twelve_one
    rw [h]
    norm_num

/-- Settles O51: the peak is at the last index of the rising half. -/
theorem exactTableConforms : Obligations.ExactTableConforms := by
  intro n m hn hn4 _
  have hpos : 0 < n := by omega
  refine ⟨fun i hi => texact_le hn hpos (by omega), texact_zero m hn hpos, fun i hi => ?_,
    n / 4, by omega, fun i j hij hj => ?_, fun i j hi hij hj => ?_⟩
  · exact (abs_texact_sub_le hn hpos (by omega)).trans (by norm_num)
  · exact texact_le_texact hn hpos (by omega) (by omega) (by unfold mirror; omega)
  · exact texact_le_texact hn hpos (by omega) (by omega) (by unfold mirror; omega)

/-- Settles O52: every comparison of entries is one of mirrored indices. -/
theorem shapeOfTheExactTable : Obligations.ShapeOfTheExactTable := by
  intro n m hn hn4 _
  have hpos : 0 < n := by omega
  refine ⟨fun i hi => ⟨amplitude_nonneg hn hpos (by omega), amplitude_le_one n i, texact_le hn hpos (by omega)⟩,
    texact_zero m hn hpos, fun i hi hlt => ?symmetry, fun i j hij hj => ?rise, fun i j hi hij hj => ?fall,
    fun h4 => ⟨texact_quarter m h4 hpos, fun i hi => amplitude_eq_one_iff h4 hpos (by omega)⟩,
    fun h2 => ⟨?twin, fun i hi => ?largest⟩, ?last, ?first,
    fun i hi => abs_texact_sub_le hn hpos (by omega)⟩
  case symmetry | twin | last => exact texact_eq_of_mirror hn hpos (by omega) (by omega) (by unfold mirror; omega)
  case rise | fall | largest => exact texact_le_texact hn hpos (by omega) (by omega) (by unfold mirror; omega)
  case first =>
    have h : (texact n m 1 : ℤ) = ⌊m * amplitude n 1 + 1 / 2⌋ := texact_eq_int_floor hn hpos (by omega)
    rwa [amplitude, Nat.cast_one, mul_one] at h

/-! ### The reference table -/

/-- Away from the ends of `[0, M]`, being exact is two comparisons of the sine with half-way points. -/
theorem isTexact_iff_sineBelow {n m i t : ℕ} (hn : n % 2 = 0) (hpos : 0 < n) (hi : 2 * i ≤ n) (ht : 0 < t) (htm : t < m) :
    IsTexact n m i t ↔ sineBelow n i (2 * t - 1) (2 * m) = false ∧ sineBelow n i (2 * t + 1) (2 * m) = true := by
  rw [isTexact_iff, ← Bool.not_eq_true, sineBelow_halfway_iff hn hpos hi (by omega) (by omega),
    sineBelow_halfway_iff hn hpos hi (by omega) (by omega), not_lt, Nat.cast_sub (by omega)]
  have hbelow : ((2 * t : ℕ) - (1 : ℕ) : ℝ) / 2 = t - 1 / 2 := by
    push_cast
    ring
  have habove : ((2 * t + 1 : ℕ) : ℝ) / 2 = t + 1 / 2 := by
    push_cast
    ring
  rw [hbelow, habove]

/-- Being exact is a matter of the sine at the index, so of the mirrored index. -/
theorem isTexact_mirror {n m i t : ℕ} (hn : n % 2 = 0) (hpos : 0 < n) (hi : 2 * i ≤ n) :
    IsTexact n m (mirror n i) t ↔ IsTexact n m i t := by
  rw [isTexact_iff, isTexact_iff, amplitude_mirror hn hpos hi]

/-- The listed table is symmetric. -/
theorem reference_entry_mirror : ∀ i < 100, Config.reference.entry (mirror 200 i) = Config.reference.entry i := by
  decide

/-- The comparisons that the entries between the first and the largest ask for. -/
theorem reference_sineBelow : ∀ i < 50, 0 < i →
    (0 < Config.reference.entry i ∧ Config.reference.entry i < 1600) ∧
      sineBelow 200 i (2 * Config.reference.entry i - 1) (2 * 1600) = false ∧
      sineBelow 200 i (2 * Config.reference.entry i + 1) (2 * 1600) = true := by
  decide +kernel

/-- The rising half of the listed table is exact: 0 at 0, `M` at the quarter, and between them by comparison. -/
theorem reference_isTexact_rising {i : ℕ} (hi : i ≤ 50) : IsTexact 200 1600 i (Config.reference.entry i) := by
  rcases Nat.eq_zero_or_pos i with rfl | hpos
  · have h : texact 200 1600 0 = Config.reference.entry 0 := texact_zero 1600 (by decide) (by decide)
    exact h ▸ isTexact_texact (by decide) (by decide) (by decide)
  · rcases hi.eq_or_lt with rfl | hlt
    · have h : texact 200 1600 50 = Config.reference.entry 50 := texact_quarter (n := 200) 1600 (by decide) (by decide)
      exact h ▸ isTexact_texact (by decide) (by decide) (by decide)
    · obtain ⟨⟨hentry, hm⟩, hcompare⟩ := reference_sineBelow i hlt hpos
      exact (isTexact_iff_sineBelow (by decide) (by decide) (by omega) hentry hm).mpr hcompare

/-- Settles O50: the table and the sine are symmetric, and the rising half is exact. -/
theorem referenceTableIsExact : Obligations.ReferenceTableIsExact := by
  intro i hi
  have hrising : mirror 200 i ≤ 50 := by
    have := four_mul_mirror_le 200 i
    omega
  refine ⟨Config.reference.entry i, wellFormed_entry_eq (p := Config.reference) (by decide) hi, ?_⟩
  rw [← isTexact_mirror (by decide) (by decide) (by omega), ← reference_entry_mirror i hi]
  exact reference_isTexact_rising hrising

/-! ### The listed candidates -/

/-- The sine at an eighth of the cycle, at the scale of the candidates. -/
theorem five_mul_amplitude_eight_one : 3 < 5 * amplitude 8 1 ∧ 5 * amplitude 8 1 < 4 := by
  have hx : 2 * π * ((1 : ℕ) : ℝ) / ((8 : ℕ) : ℝ) = π / 4 := by
    push_cast
    ring
  have hlow : 6 / 5 < √2 := lt_sqrt_of_sq_lt (by norm_num)
  have hhigh : √2 < 8 / 5 := (sqrt_lt' (by norm_num)).mpr (by norm_num)
  rw [amplitude, hx, sin_pi_div_four]
  constructor <;> linarith

theorem amplitude_eight_three : amplitude 8 3 = amplitude 8 1 :=
  amplitude_half_sub (n := 8) (i := 1) (by decide) (by decide) (by decide)

theorem amplitude_eight_two : amplitude 8 2 = 1 := amplitude_quarter (by decide) (by decide)

/-- What makes a table of `N = 8`, `M = 5` conform, when it is largest in the middle. -/
theorem conforming_eight_five {table : ℕ → ℕ} (h0 : table 0 = 0) (h1 : 3 ≤ table 1 ∧ table 1 ≤ 4)
    (h2 : 4 ≤ table 2 ∧ table 2 ≤ 5) (h3 : 3 ≤ table 3 ∧ table 3 ≤ 4) : Conforming 8 5 table := by
  obtain ⟨hlow, hhigh⟩ := five_mul_amplitude_eight_one
  have near {t : ℕ} (ht : 3 ≤ t ∧ t ≤ 4) : |(t : ℝ) - 5 * amplitude 8 1| ≤ 1 := by
    have hle : (3 : ℝ) ≤ t := by exact_mod_cast ht.1
    have hge : (t : ℝ) ≤ 4 := by exact_mod_cast ht.2
    exact abs_le.mpr ⟨by linarith, by linarith⟩
  have near_top : |(table 2 : ℝ) - 5 * 1| ≤ 1 := by
    have hle : (4 : ℝ) ≤ table 2 := by exact_mod_cast h2.1
    have hge : (table 2 : ℝ) ≤ 5 := by exact_mod_cast h2.2
    exact abs_le.mpr ⟨by linarith, by linarith⟩
  refine ⟨fun i hi => ?_, h0, fun i hi => ?_, 2, by decide, fun i j hij hj => ?_, fun i j hi hij hj => ?_⟩
  · interval_cases i <;> omega
  · change |(table i : ℝ) - 5 * amplitude 8 i| ≤ 1
    interval_cases i
    · simp [h0, amplitude_zero]
    · exact near h1
    · rw [amplitude_eight_two]
      exact near_top
    · rw [amplitude_eight_three]
      exact near h3
  · interval_cases j <;> interval_cases i <;> omega
  · change j < 4 at hj
    interval_cases j <;> interval_cases i <;> omega

/-- Settles O53: the failing tables break clause (b), (a) and (c) of R103. -/
theorem listedTablesConformAsListed : Obligations.ListedTablesConformAsListed := by
  refine ⟨conforming_eight_five (by decide) (by decide) (by decide) (by decide),
    conforming_eight_five (by decide) (by decide) (by decide) (by decide),
    conforming_eight_five (by decide) (by decide) (by decide) (by decide),
    conforming_eight_five (by decide) (by decide) (by decide) (by decide), fun h => ?_, fun h => ?_, fun h => ?_⟩
  · obtain ⟨-, hzero, -⟩ := h
    exact absurd hzero (by decide)
  · obtain ⟨hbound, -⟩ := h
    exact absurd (hbound 2 (by decide)) (by decide)
  · obtain ⟨-, -, hnear, -⟩ := h
    have hle : |(2 : ℝ) - 5 * amplitude 8 1| ≤ 1 := hnear 1 (by decide)
    have := (abs_le.mp hle).1
    linarith [five_mul_amplitude_eight_one.1]

end Sys2Proof.Machine
end

section
/-! The foreground operations after the table (spec/41_startup_configuration.md): what `CFG`, `SEI` and `IDLE` do and when
they are refused (R117, R119, R120), what `CFG` starts (R118), and that `IDLE`s leave no mark on a run (R120). -/

namespace Sys2Proof.Machine

/-! ### Refusals -/

/-- With no overflow to be taken, what R176 asks of an operation is that no fault is recorded. -/
theorem mayRun_iff_of_not_ovf {s : State} (ho : ovfEnabled s = false) : mayRun s = true ↔ s.fault = none := by
  rw [mayRun_iff, and_iff_left ho]

/-- In a well-formed block an operation that is not enabled is refused as such (R88, R171 (b)). Only `TICK`, whose enabling
has a second condition, can be refused for another reason (R132). -/
theorem exec_of_not_enabled {s : State} {i : Instr} (hw : s.params.wellFormed = true) (he : ¬enabled s i = true)
    (htick : i ≠ .tick) : exec i s = .refused (.notEnabled i.mnemonic) := by
  rw [Bool.not_eq_true] at he
  cases i with
  | reset => exact absurd he nofun
  | tgen i => exact exec_tgen_of_not_enabled hw he
  | cfg => exact (ifWellFormed_of hw _).trans (congrArg (ifEnabled .cfg · _) he)
  | sei => exact (ifWellFormed_of hw _).trans (congrArg (ifEnabled .sei · _) he)
  | idle => exact (ifWellFormed_of hw _).trans (congrArg (ifEnabled .idle · _) he)
  | tick => exact absurd rfl htick
  | ovf => exact exec_ovf_of_not_enabled hw he

/-! ### `IDLE`, `CFG` and `SEI` -/

/-- Settles O16: an enabled `IDLE` has the state itself as its next state, and its enabling is the stated condition. -/
theorem idleChangesNothing : Obligations.IdleChangesNothing := by
  intro s hw
  refine ⟨fun ⟨hfault, hfgpc, ho⟩ => execIdle_next.mpr ⟨hw, mayRun_iff.mpr ⟨hfault, ho⟩, hfgpc, rfl⟩, fun hnot => ?_⟩
  refine exec_of_not_enabled hw (fun he => hnot ?_) nofun
  obtain ⟨hmay, hfgpc⟩ := enabledIdle_iff.mp he
  obtain ⟨hfault, ho⟩ := mayRun_iff.mp hmay
  exact ⟨hfault, hfgpc, ho⟩

/-- What the contract leaves in the fields of its registers (R85, R117). -/
theorem configure_fields (s : State) :
    ((configure s).wgm = 1 ∧ (configure s).cs = 1) ∧ ((configure s).conA = true ∧ (configure s).conB = false) ∧
      ((configure s).tmaskVal = 0b11 ∧ (configure s).ienOvf = true) ∧
      (configure s).ddrA = true ∧ (configure s).ddrB = true := by
  simp [configure_eq, State.wgm, State.cs, State.conA, State.conB, State.tmaskVal, State.ienOvf, State.ddrA, State.ddrB]

/-- What the registers that the contract names read after it (R85, R117). -/
theorem readReg_configure (s : State) :
    readReg (configure s) .mode = 1 ∧ readReg (configure s) .chen = 1 ∧ readReg (configure s) .presc = 1 ∧
      readReg (configure s) .ien = 1 ∧ readReg (configure s) .ddr = 3 := by
  simp [configure_eq, readReg, State.wgm, State.chenVal, State.cs, State.ienOvf]

/-- Settles O14: the contract's next state, read field by field and register by register. -/
theorem cfgWritesTheContract : Obligations.CfgWritesTheContract := by
  intro s hw ho
  refine ⟨fun ⟨hfault, hfgpc⟩ => ?_, fun hnot => ?_⟩
  · have hexec : exec .cfg s = .next (configure s) :=
      execCfg_next.mpr ⟨hw, (mayRun_iff_of_not_ovf ho).mpr hfault, hfgpc, rfl⟩
    obtain ⟨⟨hwgm, hcs⟩, ⟨hconA, hconB⟩, ⟨htmask, hien⟩, hddrA, hddrB⟩ := configure_fields s
    have hframe := configure_eq s
    exact ⟨configure s, hexec, hwgm, by rw [hframe], hconA, hconB, htmask, hcs, hien, hddrA, hddrB, by rw [hframe],
      readReg_configure s, by rw [hframe]⟩
  · refine exec_of_not_enabled hw (fun he => hnot ?_) nofun
    obtain ⟨hmay, hfgpc⟩ := enabledCfg_iff.mp he
    exact ⟨(mayRun_iff_of_not_ovf ho).mp hmay, hfgpc⟩

/-- Settles O15: `SEI` writes the last of the four conditions of R175. -/
theorem seiUnmasks : Obligations.SeiUnmasks := by
  intro s hw ho
  refine ⟨fun ⟨hfault, hfgpc⟩ => ⟨?_, fun t ht hifr hien => ?_⟩, fun hnot => ?_⟩
  · exact execSei_next.mpr ⟨hw, (mayRun_iff_of_not_ovf ho).mpr hfault, hfgpc, rfl⟩
  · obtain ⟨-, -, -, rfl⟩ := execSei_next.mp ht
    exact ovfEnabled_iff.mpr ⟨hfault, hifr, hien, rfl⟩
  · refine exec_of_not_enabled hw (fun he => hnot ?_) nofun
    obtain ⟨hmay, hfgpc⟩ := enabledSei_iff.mp he
    exact ⟨(mayRun_iff_of_not_ovf ho).mp hmay, hfgpc⟩

/-! ### What `CFG` starts -/

/-- Pins that are not driven are `Z` (R140). -/
theorem pins_of_undriven {s : State} (hddr : s.ddr = 0) : pins s = (.z, .z) := by
  simp [pins, pin, driven, State.ddrA, State.ddrB, hddr]

/-- No count is below an active value of 0 (R139). -/
theorem waveform_of_zero {s : State} {x : Channel} (hact : activeCompare s x = 0) : waveform s x = false := by
  simp [waveform, hact]

/-- Driven pins are low, connected or not, while both waveforms are 0 (R140). -/
theorem pins_of_waveforms_zero {s : State} (hddr : s.ddr = 0b11) (ha : waveform s .a = false)
    (hb : waveform s .b = false) : pins s = (.low, .low) := by
  simp [pins, pin, driven, State.ddrA, State.ddrB, hddr, ha, hb]

/-- `TICK` in a state of the invariant runs from `CFG` on, while no overflow is to be taken (R131, R132). -/
theorem exec_tick_of_configured {s : State} (h : BlockInv s) (hc : Configured s) (ho : ovfEnabled s = false) :
    exec .tick s = .next (clockTick s) := by
  obtain ⟨⟨hw, hfault⟩, -⟩ := h
  obtain ⟨⟨hmode, hpresc, -, -⟩, -, -⟩ := hc
  have hset : s.wgm = 1 ∧ s.cs = 1 := by simp [State.wgm, State.cs, hmode, hpresc]
  exact execTick_next.mpr
    ⟨hw, (mayRun_iff_of_not_ovf ho).mpr hfault, timerReserved_eq_false.mpr (.inr (.inr hset)), rfl⟩

/-- The first tick of a configured counter at 0 counts to 1, sets no flag, and latches at most a buffer: with every compare
register 0 the pins stay low, for every `LATCH_POINT` and also at `M = 1`, where that tick arrives at `TOP` (R118). -/
theorem firstTick_of_configured {s : State} (h : BlockInv s) (hc : Configured s) (hcnt : s.cnt = 0) (hdir : s.dir = .up)
    (hifr : s.ifr = 0) (hcompare : s.cmpaBuf = 0 ∧ s.cmpbBuf = 0 ∧ s.cmpaAct = 0 ∧ s.cmpbAct = 0) :
    ∃ u, exec .tick s = .next u ∧ u.cnt = 1 ∧ u.ifrOvf = false ∧ pins u = (.low, .low) := by
  have hfits : s.cnt + 1 < 2 ^ s.params.cw := by
    have ⟨⟨hw, _⟩, _⟩ := h
    have hpos : 1 ≤ s.params.m := wellFormed_pos_m hw
    have hm : s.params.m < 2 ^ s.params.cw := wellFormed_fits_m hw
    omega
  have hflag : s.ifrOvf = false := by simp [State.ifrOvf, hifr]
  have hexec : exec .tick s = .next (clockTick s) := exec_tick_of_configured h hc (by simp [ovfEnabled, hflag])
  rw [clockTick_of_up (timerStopped_of_configured hc) hdir hfits] at hexec
  obtain ⟨-, ⟨-, hddr, -⟩, -⟩ := hc
  obtain ⟨hbufA, hbufB, hactA, hactB⟩ := hcompare
  exact ⟨_, hexec, congrArg (· + 1) hcnt, hflag, pins_of_waveforms_zero hddr
    (waveform_of_zero (by simp [activeCompare, hbufA, hactA])) (waveform_of_zero (by simp [activeCompare, hbufB, hactB]))⟩

/-- Settles O18: `CFG` finds every register at reset, so it drives the pins with the counter and the compares at 0. -/
theorem cfgStartsTheCounter : Obligations.CfgStartsTheCounter := by
  intro s t hs hexec
  have ht : BlockInv t := exec_keeps_blockInv hs hexec
  obtain ⟨-, -, hfgpc, rfl⟩ := execCfg_next.mp hexec
  rw [configure_eq] at ht ⊢
  obtain ⟨-, hconf⟩ := tableComplete_of_fgpc ht (show s.params.h < s.fgpc + 1 by omega)
  obtain ⟨-, -, -, -, -, -, -, hreset, -⟩ := hs
  obtain ⟨-, hcompare, hcnt, hdir, -, hifr, -, hddr⟩ := hreset hfgpc.le
  have ⟨_, _, hactA, hactB⟩ := hcompare
  exact ⟨pins_of_undriven hddr, pins_of_waveforms_zero rfl (waveform_of_zero hactA) (waveform_of_zero hactB), hcnt,
    by simp [State.ifrOvf, hifr], firstTick_of_configured ht hconf hcnt hdir hifr hcompare⟩

/-! ### Runs without their `IDLE`s -/

/-- A run with the `IDLE`s among what it performed left out. -/
def Run.withoutIdles (r : Run) : Run := { r with performed := r.performed.filter (fun i => i != .idle) }

/-- A trace's last operation is performed where the run of the rest ends. -/
theorem runTrace_append (ops : List Instr) (i : Instr) (s : State) :
    runTrace (ops ++ [i]) s = perform i (runTrace ops s) := by
  simp [runTrace]

/-- A run that goes on after an operation has performed it (R88). -/
theorem perform_running {i : Instr} {r : Run} (h : (perform i r).stopped = none) :
    r.stopped = none ∧ ∃ t, exec i r.state = .next t := by
  cases hr : r.stopped with
  | some x =>
    rw [perform_of_stopped hr, hr] at h
    cases h
  | none =>
    cases he : exec i r.state with
    | next t => exact ⟨rfl, t, rfl⟩
    | fault f => simp [perform, hr, he] at h
    | refused x => simp [perform, hr, he] at h

/-- A performed `IDLE` changes no state and shows nothing: it only counts as performed (R15, R120). -/
theorem withoutIdles_perform_idle {r : Run} (h : (perform .idle r).stopped = none) :
    (perform .idle r).withoutIdles = r.withoutIdles := by
  obtain ⟨hr, t, ht⟩ := perform_running h
  obtain ⟨-, -, -, rfl⟩ := execIdle_next.mp ht
  rw [perform_of_next hr ht]
  simp [Run.withoutIdles, observe]

/-- What has been performed has no part in what an operation does. -/
theorem withoutIdles_perform {i : Instr} {r : Run} (hi : i ≠ .idle) (h : (perform i r).stopped = none) :
    (perform i r).withoutIdles = perform i r.withoutIdles := by
  obtain ⟨hr, t, ht⟩ := perform_running h
  rw [perform_of_next hr ht, perform_of_next (r := r.withoutIdles) hr ht]
  simp [Run.withoutIdles, hi]

/-- The run without its `IDLE`s is the run of the trace without its `IDLE`s, if it runs through (R120). -/
theorem runTrace_filter_idle {ops : List Instr} {s : State} (h : (runTrace ops s).stopped = none) :
    runTrace (ops.filter (fun i => i != .idle)) s = (runTrace ops s).withoutIdles := by
  induction ops using List.reverseRecOn with
  | nil => rfl
  | append_singleton ops i ih =>
    rw [runTrace_append] at h
    have ih := ih (perform_running h).1
    rw [List.filter_append, runTrace_append]
    by_cases hi : i = .idle
    · subst hi
      rw [withoutIdles_perform_idle h, ← ih]
      simp
    · rw [withoutIdles_perform hi h, ← ih, ← runTrace_append]
      simp [hi]

/-- Settles O17: leaving the `IDLE`s out touches only the list of what was performed. -/
theorem idlesRemovedLeaveTheSameRun : Obligations.IdlesRemovedLeaveTheSameRun := by
  intro ops s h
  rw [runTrace_filter_idle h]
  exact ⟨h, rfl, rfl⟩

end Sys2Proof.Machine
end

section
/-! The counter/compare unit and the pins (spec/42_counter_compare.md): what one tick does (R131, R132), the arrival at
BOTTOM with its flag and its latch (R134, R135, R136, R143), the counter's place in its period (R133), the pins that follow
from it (R139 to R142). -/

namespace Sys2Proof.Machine

/-! ### One tick -/

theorem latchesAt_top_iff (l : LatchPoint) : latchesAt l .top = true ↔ l ≠ .bottom := by
  cases l <;> simp [latchesAt]

theorem latchesAt_bottom_iff (l : LatchPoint) : latchesAt l .bottom = true ↔ l ≠ .top := by
  cases l <;> simp [latchesAt]

/-- The counter is stopped exactly at one of the two settings that say so (R132). -/
theorem timerStopped_iff {s : State} : timerStopped s = true ↔ s.wgm = 0 ∨ s.cs = 0 := by
  simp [timerStopped]

/-- A counter in its one running setting runs (R132). -/
theorem timerStopped_of_running {s : State} (hwgm : s.wgm = 1) (hcs : s.cs = 1) : timerStopped s = false := by
  simp [timerStopped, hwgm, hcs]

/-- With no fault and no overflow to be taken, `TICK` is one timer clock, but for a reserved setting (R131, R132). -/
theorem exec_tick_of_not_ovf {s : State} (hw : s.params.wellFormed = true) (hfault : s.fault = none)
    (ho : ovfEnabled s = false) :
    exec .tick s = if timerReserved s = true then .refused .timerSettingReserved else .next (clockTick s) := by
  have hmay : mayRun s = true := mayRun_iff.mpr ⟨hfault, ho⟩
  exact (ifWellFormed_of hw _).trans (congrArg (ifEnabled .tick · _) hmay)

/-- Settles O21: the tick of a stopped, of a reserved and of a running counter. -/
theorem tickCountsFlagsAndLatches : Obligations.TickCountsFlagsAndLatches := by
  intro s hw hfault ho
  have hrunning (hwgm : s.wgm = 1) (hcs : s.cs = 1) : exec .tick s = .next (clockTick s) := by
    rw [exec_tick_of_not_ovf hw hfault ho, timerReserved_eq_false.mpr (.inr (.inr ⟨hwgm, hcs⟩))]
    rfl
  refine ⟨fun hstop => ?_, fun hwgm hcs hnot => ?_, fun hwgm hcs hdir hfits => ?_, fun hwgm hcs hdir hpos => ?_⟩
  · have hclock : clockTick s = s := if_pos (timerStopped_iff.mpr hstop)
    rw [exec_tick_of_not_ovf hw hfault ho, timerReserved_eq_false.mpr (by tauto), hclock]
    rfl
  · have hreserved : timerReserved s = true := by
      rw [← Bool.not_eq_false, timerReserved_eq_false]
      tauto
    rw [exec_tick_of_not_ovf hw hfault ho, if_pos hreserved]
  · rw [hrunning hwgm hcs, clockTick_of_up (timerStopped_of_running hwgm hcs) hdir hfits]
    simp only [latchesAt_top_iff]
  · rw [hrunning hwgm hcs, clockTick_of_down (timerStopped_of_running hwgm hcs) hdir hpos]
    simp only [latchesAt_bottom_iff]

/-! ### The arrival at BOTTOM -/

/-- The next timer clock arrives at BOTTOM: a running counter counts down to 0 (R134). -/
def ArrivesAtBottom (s : State) : Prop := timerStopped s = false ∧ s.dir = .down ∧ (clockTick s).cnt = 0

/-- The arrival at BOTTOM sets the overflow flag, and unless `LATCH_POINT = {TOP}` it latches (R135, R136). -/
theorem clockTick_of_arrival {s : State} (h : ArrivesAtBottom s) :
    (clockTick s).ifr = 1 ∧ (s.params.latch ≠ .top → (clockTick s).cmpaAct = s.cmpaBuf) := by
  obtain ⟨hrun, hdir, hzero⟩ := h
  rcases clockTick_cases s with ⟨hstop, -⟩ | ⟨-, hup, -⟩ | ⟨-, hup, -⟩ | ⟨-, -, -, he⟩ | ⟨-, -, hne, he⟩
  · simp [hrun] at hstop
  · simp [hdir] at hup
  · simp [hdir] at hup
  · rw [he, arriveAt_eq, countDown_frame]
    exact ⟨rfl, fun hlatch => if_pos ((latchesAt_bottom_iff _).mpr hlatch)⟩
  · exact absurd (he ▸ hzero) hne

/-- No other timer clock touches the flag, and with `LATCH_POINT = {BOTTOM}` none latches (R135, R136). -/
theorem clockTick_of_no_arrival {s : State} (h : ¬ArrivesAtBottom s) :
    (clockTick s).ifr = s.ifr ∧ (s.params.latch = .bottom → (clockTick s).cmpaAct = s.cmpaAct) := by
  rcases clockTick_cases s with ⟨-, he⟩ | ⟨-, -, -, he⟩ | ⟨-, -, -, he⟩ | ⟨hrun, hdown, hzero, he⟩ | ⟨-, -, -, he⟩
  · rw [he]
    exact ⟨rfl, fun _ => rfl⟩
  · rw [he, arriveAt_eq, countUp_frame]
    exact ⟨rfl, fun hlatch => if_neg (by simp [latchesAt_top_iff, hlatch])⟩
  · rw [he, countUp_frame]
    exact ⟨rfl, fun _ => rfl⟩
  · refine absurd ⟨hrun, hdown, ?_⟩ h
    rw [he, arriveAt_eq]
    exact hzero
  · rw [he, countDown_frame]
    exact ⟨rfl, fun _ => rfl⟩

/-- What an invocation leaves alone, whether it loads or faults (R151, R171 (c)). -/
theorem handlerInvocation_frame (s : State) :
    handlerInvocation s =
      { s with
        ifr := (handlerInvocation s).ifr, chen := (handlerInvocation s).chen
        pending := (handlerInvocation s).pending, cursor := (handlerInvocation s).cursor
        cmpaBuf := (handlerInvocation s).cmpaBuf, cmpbBuf := (handlerInvocation s).cmpbBuf
        k := (handlerInvocation s).k, fault := (handlerInvocation s).fault } := by
  rcases handlerInvocation_cases s with ⟨v, -, he⟩ | ⟨f, -, he⟩ <;> rw [he]
  rw [afterRow_frame]

/-- No operation but `TICK` requests an overflow (R135). -/
theorem ifrOvf_of_exec_other {s t : State} {i : Instr} (h : exec i s = .next t) (htick : i ≠ .tick)
    (ht : t.ifrOvf = true) : s.ifrOvf = true := by
  cases i with
  | tick => exact absurd rfl htick
  | reset => obtain ⟨-, rfl⟩ := execReset_next.mp h; simp [State.ifrOvf] at ht
  | tgen i => obtain ⟨-, -, -, -, rfl⟩ := execTgen_next.mp h; exact ht
  | cfg => obtain ⟨-, -, -, rfl⟩ := execCfg_next.mp h; rwa [configure_eq] at ht
  | sei => obtain ⟨-, -, -, rfl⟩ := execSei_next.mp h; exact ht
  | idle => obtain ⟨-, -, -, rfl⟩ := execIdle_next.mp h; exact ht
  | ovf =>
    obtain ⟨-, ho, -⟩ := execOvf_next.mp h
    obtain ⟨-, hflag, -⟩ := ovfEnabled_iff.mp ho
    exact hflag

/-- Settles O33: among the ticks it is the arrival at BOTTOM that sets the flag, and no other operation sets it. -/
theorem onlyBottomSetsTheOverflowFlag : Obligations.OnlyBottomSetsTheOverflowFlag := by
  refine ⟨fun s t h hwgm hcs hdir hzero => ?_, fun s t i h hs ht => ?_⟩
  · obtain ⟨-, -, -, rfl⟩ := execTick_next.mp h
    have harrival : ArrivesAtBottom s := ⟨timerStopped_of_running hwgm hcs, hdir, hzero⟩
    obtain ⟨hifr, -⟩ := clockTick_of_arrival harrival
    simp [State.ifrOvf, hifr]
  · by_cases htick : i = .tick
    · subst htick
      obtain ⟨-, -, hset, rfl⟩ := execTick_next.mp h
      have harrival : ArrivesAtBottom s := by
        by_contra hnot
        obtain ⟨hifr, -⟩ := clockTick_of_no_arrival hnot
        rw [State.ifrOvf, hifr] at ht
        exact absurd (hs.symm.trans ht) nofun
      obtain ⟨hrun, hdir, hzero⟩ := harrival
      have hnotStopped : ¬(s.wgm = 0 ∨ s.cs = 0) := fun hstop => by simp [timerStopped_iff.mpr hstop] at hrun
      obtain ⟨hwgm, hcs⟩ : s.wgm = 1 ∧ s.cs = 1 := by
        have := timerReserved_eq_false.mp hset
        tauto
      exact ⟨rfl, hwgm, hcs, hdir, hzero⟩
    · exact absurd (hs.symm.trans (ifrOvf_of_exec_other h htick ht)) nofun

/-! ### What the active registers hold -/

/-- A latching tick takes the value of the last invocation, which the closed form of the handler gives (R136, R143). -/
theorem clockTick_keeps_activeForm {s : State} (hh : HandlerForm s) (ha : ActiveForm s) : ActiveForm (clockTick s) := by
  obtain ⟨hzero, hpos⟩ := hh
  have hparams : (clockTick s).params = s.params := by rw [clockTick_frame]
  have hk : (clockTick s).k = s.k := by rw [clockTick_frame]
  intro hlatch
  rw [hparams] at hlatch ⊢
  rw [hk]
  by_cases harrival : ArrivesAtBottom s
  · obtain ⟨hifr, hact⟩ := clockTick_of_arrival harrival
    have hflag : (clockTick s).ifrOvf = true := by simp [State.ifrOvf, hifr]
    rw [hact (by simp [hlatch]), if_pos hflag]
    split
    next hnone =>
      obtain ⟨-, ⟨hbuf, -⟩, -⟩ := hzero hnone
      exact hbuf
    next hsome =>
      obtain ⟨-, -, hbuf, -⟩ := hpos (Nat.pos_of_ne_zero hsome)
      exact hbuf
  · obtain ⟨hifr, hact⟩ := clockTick_of_no_arrival harrival
    rw [hact hlatch, State.ifrOvf, hifr]
    exact ha hlatch

/-- An invocation answers the flag: what was the last value written is then the one before it (R143). -/
theorem handlerInvocation_keeps_activeForm {s : State} (h : BlockInv s) (ho : ovfEnabled s = true) (ha : ActiveForm s) :
    ActiveForm (handlerInvocation s) := by
  obtain ⟨-, hflag, -⟩ := ovfEnabled_iff.mp ho
  rw [handlerInvocation_of_blockInv h ho]
  intro hlatch
  have hact := ha hlatch
  rw [if_pos hflag] at hact
  simpa [State.ifrOvf, show s.k + 1 - 2 = s.k - 1 by omega] using hact

/-- Every operation keeps the closed form of the active registers. -/
theorem exec_keeps_activeForm {s t : State} {i : Instr} (h : BlockInv s) (hh : HandlerForm s) (ha : ActiveForm s)
    (hexec : exec i s = .next t) : ActiveForm t := by
  cases i with
  | reset => obtain ⟨-, rfl⟩ := execReset_next.mp hexec; exact activeForm_startState s.params
  | tgen i => obtain ⟨-, -, -, -, rfl⟩ := execTgen_next.mp hexec; exact ha
  | cfg => obtain ⟨-, -, -, rfl⟩ := execCfg_next.mp hexec; rw [configure_eq]; exact ha
  | sei => obtain ⟨-, -, -, rfl⟩ := execSei_next.mp hexec; exact ha
  | idle => obtain ⟨-, -, -, rfl⟩ := execIdle_next.mp hexec; exact ha
  | tick => obtain ⟨-, -, -, rfl⟩ := execTick_next.mp hexec; exact clockTick_keeps_activeForm hh ha
  | ovf => obtain ⟨-, ho, rfl⟩ := execOvf_next.mp hexec; exact handlerInvocation_keeps_activeForm h ho ha

/-- What follows from `P` by every operation follows by every step, if the model's own `trace` and `fresh` have no part
in `P`. -/
theorem step_establishes {P Q : State → Prop} (hown : ∀ s ws n, P s → P { s with trace := ws, fresh := n })
    (hexec : ∀ s t i, P s → exec i s = .next t → Q t) {s t : State} (hs : P s) (h : step s = .next t) : Q t := by
  rcases step_next h with ⟨w, rest, i, -, -, hi⟩ | ⟨-, -, hi⟩
  · exact hexec _ t i (hown s rest s.fresh hs) hi
  · exact hexec _ t _ (hown s s.trace (s.fresh + 1) hs) hi

/-- Settles O41: a step performs an operation, and every operation keeps the closed form; the deferral is not needed. -/
theorem stepKeepsActiveClosedForm : Obligations.StepKeepsActiveClosedForm := fun _ _ hs hh _ ha h =>
  step_establishes (P := fun s => BlockInv s ∧ HandlerForm s ∧ ActiveForm s) (fun _ _ _ hs => hs)
    (fun _ _ _ ⟨hs, hh, ha⟩ => exec_keeps_activeForm hs hh ha) ⟨hs, hh, ha⟩ h

/-! ### The place in the period -/

/-- `CNT` at place `j` of a period of `2m` places counted from BOTTOM (R133, R134). -/
def countAt (m j : Nat) : Nat := min j (2 * m - j)

/-- `DIR` at place `j` of a period of `2m` places (R133). -/
def dirAt (m j : Nat) : Dir := if j < m then .up else .down

/-- While the direction's invariants hold, `CNT` and `DIR` are those of the counter's place in its period. -/
theorem count_of_phase {s : State} (hle : s.cnt ≤ s.top) (h : CounterForm s) :
    phase s < 2 * s.top ∧ s.cnt = countAt s.top (phase s) ∧ s.dir = dirAt s.top (phase s) := by
  obtain ⟨hup, hdown⟩ := h
  unfold phase countAt dirAt
  cases hdir : s.dir with
  | up =>
    have hlt : s.cnt < s.top := hup hdir
    simp only [hlt, if_true, and_true]
    omega
  | down =>
    have hpos : 1 ≤ s.cnt := hdown hdir
    simp only [show ¬2 * s.top - s.cnt < s.top by omega, if_false, and_true]
    omega

/-- From `CFG` on, `TOP = M` and the direction's invariants hold (R46, R133). -/
theorem counter_of_blockInv {s : State} (h : BlockInv s) (hlt : s.params.h < s.fgpc) :
    s.top = s.params.m ∧ s.cnt ≤ s.top ∧ CounterForm s := by
  obtain ⟨-, hle, -, -, -, -, -, -, hconf, -, -⟩ := h
  obtain ⟨⟨⟨-, -, htop, -⟩, -⟩, hform⟩ := hconf hlt
  exact ⟨htop, hle, hform⟩

/-- A tick moves the counter one place on, back to BOTTOM after the last place (R133). -/
theorem phase_clockTick {s : State} (h : BlockInv s) (hlt : s.params.h < s.fgpc) :
    phase (clockTick s) = (phase s + 1) % (2 * s.params.m) := by
  obtain ⟨-, hconf⟩ := tableComplete_of_fgpc h hlt
  have hrun : timerStopped s = false := timerStopped_of_configured hconf
  obtain ⟨htop, hle, hup, hdown⟩ := counter_of_blockInv h hlt
  obtain ⟨⟨hw, -⟩, -⟩ := h
  have hm : s.params.m < 2 ^ s.params.cw := wellFormed_fits_m hw
  rw [← htop]
  cases hdir : s.dir with
  | up =>
    have hcnt : s.cnt < s.top := hup hdir
    have hphase : phase s = s.cnt := by simp [phase, hdir]
    rw [clockTick_of_up hrun hdir (by omega), hphase, Nat.mod_eq_of_lt (by omega)]
    by_cases hedge : s.cnt + 1 = s.top
    · simp only [phase, hedge, if_true]
      omega
    · simp only [phase, hedge, if_false]
  | down =>
    have hcnt : 1 ≤ s.cnt := hdown hdir
    have hphase : phase s = 2 * s.top - s.cnt := by simp [phase, hdir]
    rw [clockTick_of_down hrun hdir hcnt, hphase]
    by_cases hedge : s.cnt = 1
    · have hlast : 2 * s.top - s.cnt + 1 = 2 * s.top := by omega
      rw [hlast, Nat.mod_self]
      simp [phase, hedge]
    · rw [Nat.mod_eq_of_lt (by omega)]
      simp only [phase, hedge, if_false]
      omega

/-- From `CFG` on no operation but `TICK` and `RESET` moves the counter (R133). -/
theorem phase_of_exec_other {s t : State} {i : Instr} (hlt : s.params.h < s.fgpc) (h : exec i s = .next t)
    (htick : i ≠ .tick) (hreset : i ≠ .reset) : phase t = phase s := by
  cases i with
  | reset => exact absurd rfl hreset
  | tick => exact absurd rfl htick
  | cfg => obtain ⟨-, -, hfgpc, -⟩ := execCfg_next.mp h; omega
  | tgen i => obtain ⟨-, -, -, -, rfl⟩ := execTgen_next.mp h; rfl
  | sei => obtain ⟨-, -, -, rfl⟩ := execSei_next.mp h; rfl
  | idle => obtain ⟨-, -, -, rfl⟩ := execIdle_next.mp h; rfl
  | ovf => obtain ⟨-, -, rfl⟩ := execOvf_next.mp h; rw [handlerInvocation_frame]; rfl

/-- Settles O24: the place is one of the period's, a tick moves it on, and every other operation leaves it. -/
theorem tickMovesThePhase : Obligations.TickMovesThePhase := by
  intro s t i h hlt hexec hreset
  obtain ⟨htop, hle, hform⟩ := counter_of_blockInv h hlt
  obtain ⟨hplace, -⟩ := count_of_phase hle hform
  refine ⟨htop ▸ hplace, ?_⟩
  split
  next htick =>
    subst htick
    obtain ⟨-, -, -, rfl⟩ := execTick_next.mp hexec
    exact phase_clockTick h hlt
  next htick => exact phase_of_exec_other hlt hexec htick hreset

/-! ### The counter sequence -/

/-- No operation but `RESET` takes `FGPC` back (R21). -/
theorem fgpc_le_of_exec {s t : State} {i : Instr} (h : exec i s = .next t) (hreset : i ≠ .reset) : s.fgpc ≤ t.fgpc := by
  cases i with
  | reset => exact absurd rfl hreset
  | tgen i => obtain ⟨-, -, -, -, rfl⟩ := execTgen_next.mp h; exact Nat.le_succ _
  | cfg => obtain ⟨-, -, -, rfl⟩ := execCfg_next.mp h; rw [configure_eq]; exact Nat.le_succ _
  | sei => obtain ⟨-, -, -, rfl⟩ := execSei_next.mp h; exact Nat.le_succ _
  | idle => obtain ⟨-, -, -, rfl⟩ := execIdle_next.mp h; exact le_rfl
  | tick => obtain ⟨-, -, -, rfl⟩ := execTick_next.mp h; rw [clockTick_frame]
  | ovf => obtain ⟨-, -, rfl⟩ := execOvf_next.mp h; rw [handlerInvocation_frame]

/-- A run in a block with parameters `p`, past `CFG`: the counter stands where the ticks performed so far take it. -/
structure Run.CountsTicks (p : Params) (r : Run) : Prop where
  blockInv : BlockInv r.state
  params : r.state.params = p
  afterCfg : p.h < r.state.fgpc
  phase_eq : phase r.state = r.performed.count .tick % (2 * p.m)

/-- An operation that is no step leaves a run where it stands; any other is performed (R88). -/
theorem perform_cases (i : Instr) (r : Run) :
    ((perform i r).state = r.state ∧ (perform i r).performed = r.performed) ∨
    (exec i r.state = .next (perform i r).state ∧ (perform i r).performed = r.performed ++ [i]) := by
  cases hr : r.stopped with
  | some x => exact .inl (by simp [perform, hr])
  | none =>
    cases he : exec i r.state with
    | next t => exact .inr (by simp [perform, hr, he])
    | fault f => exact .inl (by simp [perform, hr, he])
    | refused x => exact .inl (by simp [perform, hr, he])

/-- One more operation, performed or not, keeps the ticks counted. -/
theorem Run.CountsTicks.perform {p : Params} {r : Run} (h : r.CountsTicks p) {i : Instr} (hreset : i ≠ .reset) :
    (perform i r).CountsTicks p := by
  obtain ⟨hinv, hp, hlt, hphase⟩ := h
  rcases perform_cases i r with ⟨hstate, hperf⟩ | ⟨hexec, hperf⟩
  · exact ⟨by rwa [hstate], by rwa [hstate], by rwa [hstate], by rwa [hstate, hperf]⟩
  · obtain ⟨-, hnext⟩ := tickMovesThePhase _ _ i hinv (by rwa [hp]) hexec hreset
    refine ⟨exec_keeps_blockInv hinv hexec, (exec_params hexec).trans hp, hlt.trans_le (fgpc_le_of_exec hexec hreset), ?_⟩
    rw [hnext, hperf, hphase, hp, List.count_append]
    split
    next htick => simp [htick]
    next htick => simp [htick]

/-- A run without `RESET` from BOTTOM counts its ticks. -/
theorem runTrace_countsTicks {ops : List Instr} {s : State} (h : BlockInv s) (hlt : s.params.h < s.fgpc)
    (hphase : phase s = 0) (hops : Instr.reset ∉ ops) : (runTrace ops s).CountsTicks s.params := by
  induction ops using List.reverseRecOn with
  | nil => exact ⟨h, rfl, hlt, by simpa [runTrace, Run.start] using hphase⟩
  | append_singleton ops i ih =>
    simp only [List.mem_append, List.mem_singleton, not_or] at hops
    rw [runTrace_append]
    exact (ih hops.1).perform (Ne.symm hops.2)

/-- Settles O23: `CNT` and `DIR` are those of the place that the ticks performed give. -/
theorem counterSequence : Obligations.CounterSequence := by
  rintro s ops r j h hfgpc hcnt hdir hops rfl rfl
  obtain ⟨hinv, hp, hlt, hphase⟩ := runTrace_countsTicks h (by omega) (by simp [phase, hdir, hcnt]) hops
  obtain ⟨htop, hle, hform⟩ := counter_of_blockInv hinv (by rwa [hp])
  obtain ⟨hplace, hcount, hturn⟩ := count_of_phase hle hform
  rw [hp] at htop
  obtain ⟨⟨hw, -⟩, -⟩ := h
  have hm : s.params.m < 2 ^ s.params.cw := wellFormed_fits_m hw
  rw [htop, hphase] at hplace hcount hturn
  refine ⟨?_, hturn, htop, hle, by omega, hform⟩
  rw [hcount, countAt]
  split <;> omega

/-! ### The pins -/

/-- A pin is high where it is driven, connected, and its channel's waveform is 1 (R140). -/
theorem pin_eq_high_iff {s : State} {x : Channel} :
    pin s x = .high ↔ driven s x = true ∧ connected s x = true ∧ waveform s x = true := by
  unfold pin
  split
  next hundriven => simp [hundriven]
  next hdriven =>
    rw [Bool.not_eq_false] at hdriven
    split
    next hhigh => simp [hdriven, hhigh]
    next hlow => simp [hdriven, hlow]

/-- `CHEN` at one of its two legal values connects one channel, the active one (R141). -/
theorem channel_of_chen {s : State} (h : s.chen = 0b01 ∨ s.chen = 0b10) :
    (s.chen = 0x01 ∧ activeChannel s = some .a ∧ connected s .a = true ∧ connected s .b = false) ∨
    (s.chen = 0x02 ∧ activeChannel s = some .b ∧ connected s .a = false ∧ connected s .b = true) := by
  rcases h with hc | hc
  · exact .inl (by simp [hc, activeChannel, State.chenVal, connected, State.conA, State.conB])
  · exact .inr (by simp [hc, activeChannel, State.chenVal, connected, State.conA, State.conB])

/-- Before `CFG` no pin is driven; from `CFG` on one channel is not connected (R140, R141). -/
theorem not_both_pins_high {s : State} (h : BlockInv s) : ¬(pin s .a = .high ∧ pin s .b = .high) := by
  rw [pin_eq_high_iff, pin_eq_high_iff]
  rintro ⟨⟨hdriven, hconA, -⟩, -, hconB, -⟩
  rcases Nat.lt_or_ge s.params.h s.fgpc with hafter | hbefore
  · obtain ⟨-, -, ⟨-, -, hchen⟩, -⟩ := tableComplete_of_fgpc h hafter
    rcases channel_of_chen hchen with ⟨-, -, -, hoff⟩ | ⟨-, -, hoff, -⟩
    · exact absurd (hoff.symm.trans hconB) nofun
    · exact absurd (hoff.symm.trans hconA) nofun
  · obtain ⟨-, -, -, -, -, -, -, hreset, -⟩ := h
    obtain ⟨-, -, -, -, -, -, -, hddr⟩ := hreset hbefore
    simp [driven, State.ddrA, hddr] at hdriven

/-- The row's action exchanges the active channel in the flip alone (R141, R152). -/
theorem activeChannel_afterRow {s : State} (h : Configured s) :
    activeChannel (afterRow s) = if s.pending = true then (activeChannel s).map Channel.other else activeChannel s := by
  obtain ⟨⟨-, -, -, htmask⟩, ⟨-, -, hchen⟩, -⟩ := h
  rcases afterRow_cases s with ⟨hp, -, he⟩ | ⟨hp, -, -, he⟩ | ⟨hp, -, -, he⟩ <;> rw [he, hp]
  · rcases hchen with hc | hc
    · simp [activeChannel, State.chenVal, State.tmaskVal, hc, htmask, Channel.other]
    · simp [activeChannel, State.chenVal, State.tmaskVal, hc, htmask, Channel.other]
  · rfl
  · rfl

/-- Settles O34: the legal values of `CHEN` connect one channel, and the flip exchanges them. -/
theorem oneActiveChannel : Obligations.OneActiveChannel := by
  intro s h
  refine ⟨not_both_pins_high h, fun hafter => ?_, fun t hexec => ?_⟩
  · obtain ⟨-, -, ⟨-, -, hchen⟩, -⟩ := tableComplete_of_fgpc h hafter
    exact channel_of_chen hchen
  · obtain ⟨-, ho, rfl⟩ := execOvf_next.mp hexec
    have hend : s.fgpc = s.params.h + 2 := fgpc_of_ovfEnabled h ho
    obtain ⟨-, hconf⟩ := tableComplete_of_fgpc h (by omega)
    rw [handlerInvocation_of_blockInv h ho, ← activeChannel_afterRow hconf]
    rfl

/-! ### The pulse of a period -/

/-- `s` with its counter at place `j` of the period that `TOP` gives. -/
def State.atPlace (s : State) (j : Nat) : State := { s with cnt := countAt s.top j, dir := dirAt s.top j }

@[simp] theorem atPlace_wgm (s : State) (j : Nat) : (s.atPlace j).wgm = s.wgm := rfl
@[simp] theorem atPlace_cnt (s : State) (j : Nat) : (s.atPlace j).cnt = countAt s.top j := rfl

@[simp] theorem connected_atPlace (s : State) (j : Nat) (x : Channel) : connected (s.atPlace j) x = connected s x := by
  cases x <;> rfl

@[simp] theorem driven_atPlace (s : State) (j : Nat) (x : Channel) : driven (s.atPlace j) x = driven s x := by
  cases x <;> rfl

@[simp] theorem activeCompare_atPlace (s : State) (j : Nat) (x : Channel) :
    activeCompare (s.atPlace j) x = activeCompare s x := by
  cases x <;> rfl

/-- The places before `TOP` are those of the count up (R133). -/
theorem atPlace_of_lt {s : State} {j : Nat} (h : j < s.top) : s.atPlace j = { s with cnt := j, dir := .up } := by
  rw [State.atPlace, dirAt, if_pos h, countAt, Nat.min_eq_left (by omega)]

/-- The places from `TOP` on are those of the count down (R133). -/
theorem atPlace_of_ge {s : State} {j : Nat} (h : s.top ≤ j) :
    s.atPlace j = { s with cnt := 2 * s.top - j, dir := .down } := by
  rw [State.atPlace, dirAt, if_neg (Nat.not_lt.mpr h), countAt, Nat.min_eq_right (by omega)]

/-- A counter at 0 that counts up is at place 0. -/
theorem atPlace_zero {s : State} (hpos : 0 < s.top) (hcnt : s.cnt = 0) (hdir : s.dir = .up) : s.atPlace 0 = s := by
  rw [atPlace_of_lt hpos, ← hcnt, ← hdir]

/-- What a period is counted in: a running counter with `TOP = M`, no fault, no overflow to be taken, and
`LATCH_POINT = {BOTTOM}` (R134, R142). -/
structure State.RunsAPeriod (s : State) : Prop where
  wellFormed : s.params.wellFormed = true
  fault : s.fault = none
  ovf : ovfEnabled s = false
  wgm : s.wgm = 1
  cs : s.cs = 1
  latch : s.params.latch = .bottom
  top : s.top = s.params.m

/-- Inside the period a tick only moves the counter: it neither sets the flag nor latches (R135, R136). -/
theorem State.RunsAPeriod.exec_tick {s : State} (h : s.RunsAPeriod) {j : Nat} (hj : j + 1 < 2 * s.top) :
    exec .tick (s.atPlace j) = .next (s.atPlace (j + 1)) := by
  obtain ⟨hw, hfault, ho, hwgm, hcs, hlatch, htop⟩ := h
  have hm : s.params.m < 2 ^ s.params.cw := wellFormed_fits_m hw
  rcases Nat.lt_or_ge j s.top with hrising | hfalling
  · obtain ⟨-, -, hup, -⟩ := tickCountsFlagsAndLatches { s with cnt := j, dir := .up } hw hfault ho
    have hfits : j + 1 < 2 ^ s.params.cw := by omega
    rw [atPlace_of_lt hrising, hup hwgm hcs rfl hfits]
    by_cases hedge : j + 1 = s.top
    · rw [atPlace_of_ge hedge.ge]
      simp [hlatch, hedge, Nat.two_mul]
    · rw [atPlace_of_lt (by omega)]
      simp [hlatch, hedge]
  · obtain ⟨-, -, -, hdown⟩ := tickCountsFlagsAndLatches { s with cnt := 2 * s.top - j, dir := .down } hw hfault ho
    have hpos : 0 < 2 * s.top - j := by omega
    rw [atPlace_of_ge hfalling, atPlace_of_ge (by omega), hdown hwgm hcs rfl hpos]
    simp [show 2 * s.top - j ≠ 1 by omega, Nat.sub_sub]

/-- The ticks inside a period move the counter from place to place. -/
theorem State.RunsAPeriod.runTicks {s : State} (h : s.RunsAPeriod) {j n : Nat} (hn : j + n < 2 * s.top) :
    runTicks n (s.atPlace j) = some (s.atPlace (j + n)) := by
  induction n generalizing j with
  | zero => rfl
  | succ n ih =>
    rw [Machine.runTicks, h.exec_tick (by omega)]
    exact (ih (by omega)).trans (by rw [Nat.add_right_comm, Nat.add_assoc])

/-- Of the first `n` places of a period the count is below `c` on the first `c` and on the last `c - 1` (R142). -/
theorem countP_countAt_lt {m c n : Nat} (hc : c ≤ m) (hn : n ≤ 2 * m) :
    (List.range n).countP (fun j => decide (countAt m j < c)) = min n c + (n - (2 * m - c + 1)) := by
  induction n with
  | zero => simp
  | succ n ih =>
    rw [List.range_succ, List.countP_append, ih (by omega)]
    simp only [List.countP_singleton, decide_eq_true_eq]
    unfold countAt
    split <;> omega

/-- A connected and driven channel's pin follows the comparison of the place's count with the active value (R139, R140). -/
theorem pin_atPlace_eq_high_iff {s : State} {x : Channel} (hwgm : s.wgm = 1) (hcon : connected s x = true)
    (hdriven : driven s x = true) {j : Nat} : pin (s.atPlace j) x = .high ↔ countAt s.top j < activeCompare s x := by
  simp [pin_eq_high_iff, waveform, hwgm, hcon, hdriven]

/-- Settles O25: the state after `j` ticks is the one at place `j`, and the places with a count below `C` are counted. -/
theorem pulseWidthOfAPeriod : Obligations.PulseWidthOfAPeriod := by
  intro s x hw hfault ho hwgm hcs hlatch htop hcnt hdir hcon hdriven hle
  have hperiod : s.RunsAPeriod := ⟨hw, hfault, ho, hwgm, hcs, hlatch, htop⟩
  have hpos : 0 < s.top := htop ▸ wellFormed_pos_m hw
  have hrun {j : Nat} (hj : j < 2 * s.top) : runTicks j s = some (s.atPlace j) := by
    have := hperiod.runTicks (j := 0) (n := j) (by omega)
    rwa [atPlace_zero hpos hcnt hdir, Nat.zero_add] at this
  refine ⟨fun j hj => ⟨_, hrun hj, activeCompare_atPlace s j x⟩, ?_⟩
  calc (List.range (2 * s.top)).countP (fun j => (runTicks j s).any (fun t => decide (pin t x = .high)))
      = (List.range (2 * s.top)).countP (fun j => decide (countAt s.top j < activeCompare s x)) :=
        List.countP_congr fun j hj => by
          simp [hrun (List.mem_range.mp hj), pin_atPlace_eq_high_iff hwgm hcon hdriven]
    _ = min (2 * s.top) (activeCompare s x) + (2 * s.top - (2 * s.top - activeCompare s x + 1)) :=
        countP_countAt_lt hle le_rfl
    _ = 2 * activeCompare s x - 1 := by omega

end Sys2Proof.Machine
end

section
/-! The playback handler (spec/43_playback_handler.md): what an invocation does in each of its rows (R151 to R157), that it
stays inside the table (R158), its closed forms (R159, R160, R162) and the handler trace they determine (R161). -/

namespace Sys2Proof.Machine

/-! ### One invocation -/

theorem handlerRow_eq_flip_iff {s : State} : handlerRow s = .flip ↔ s.pending = true := by
  rcases afterRow_cases s with ⟨hp, hr, -⟩ | ⟨hp, -, hr, -⟩ | ⟨hp, -, hr, -⟩ <;> simp [hr, hp]

theorem handlerRow_eq_wrap_iff {s : State} : handlerRow s = .wrap ↔ s.pending = false ∧ s.params.h ≤ s.cursor := by
  rcases afterRow_cases s with ⟨hp, hr, -⟩ | ⟨hp, hc, hr, -⟩ | ⟨hp, hc, hr, -⟩
  · simp [hr, hp]
  · simp [hr, hp, hc]
  · simp [hr, hp, hc]

/-- The flip's exclusive or is of the named bits, so writing it drops nothing (R85, R152). -/
theorem namedBits_xor (v w : Reg8) : ((v &&& 0x03) ^^^ (w &&& 0x03)) &&& 0x03 = (v &&& 0x03) ^^^ (w &&& 0x03) := by
  ext i
  simp only [BitVec.getElem_and, BitVec.getElem_xor]
  cases (0x03 : Reg8)[i] <;> simp

/-- An enabled `OVF` whose index is below `H` and written loads that entry (R151, R155, R156), whole. -/
theorem exec_ovf_of_read {s : State} {i v : Nat} (hw : s.params.wellFormed = true) (ho : ovfEnabled s = true)
    (hi : (afterRow s).cursor = i) (hlt : i < s.params.h) (hread : s.table.read i = some v) :
    exec .ovf s = .next
      { s with
        ifr := 0, chen := (afterRow s).chen, pending := (afterRow s).pending, cmpaBuf := v, cmpbBuf := v
        cursor := i + 1, k := s.k + 1 } := by
  subst hi
  exact execOvf_next.mpr ⟨hw, ho, (handlerInvocation_of_read hlt hread).symm⟩

/-- Settles O26: each row is the index that it reads and what its action leaves in `CHEN` and `PENDING`. -/
theorem handlerRowsAndLoad : Obligations.HandlerRowsAndLoad := by
  intro s v hw ho
  have hzero : 0 < s.params.h := Nat.lt_of_lt_of_le Nat.two_pos (wellFormed_two_le_h hw)
  refine ⟨fun hp hlt hread => ?_, fun hp hge hread => ?_, fun hp hlt hread => ?_⟩
  · rcases afterRow_cases s with ⟨-, -, he⟩ | ⟨hn, -⟩ | ⟨hn, -⟩
    · rw [exec_ovf_of_read hw ho (by rw [he]) hlt hread, he]
      simp only [State.chenVal, State.tmaskVal, namedBits_xor]
    · exact absurd (hp.symm.trans hn) nofun
    · exact absurd (hp.symm.trans hn) nofun
  · rcases afterRow_cases s with ⟨hn, -⟩ | ⟨-, -, -, he⟩ | ⟨-, hlt, -⟩
    · exact absurd (hp.symm.trans hn) nofun
    · rw [exec_ovf_of_read hw ho (by rw [he]) hzero hread, he]
    · omega
  · rcases afterRow_cases s with ⟨hn, -⟩ | ⟨-, hge, -⟩ | ⟨-, -, -, he⟩
    · exact absurd (hp.symm.trans hn) nofun
    · omega
    · rw [exec_ovf_of_read hw ho (by rw [he]) hlt hread, he]

/-- Settles O29: an invocation that loads leaves `CHEN` and `PENDING` as its row does, and each row moves at most one. -/
theorem flipAndWrapNeverTogether : Obligations.FlipAndWrapNeverTogether := by
  intro s t hexec hfault
  obtain ⟨-, ho, rfl⟩ := execOvf_next.mp hexec
  rcases handlerInvocation_cases s with ⟨v, -, hload⟩ | ⟨f, -, hf⟩
  · rw [hload]
    rcases afterRow_cases s with ⟨hp, -, he⟩ | ⟨hp, hge, -, he⟩ | ⟨hp, -, -, he⟩ <;> rw [he]
    · exact ⟨fun _ => ⟨hp, rfl, rfl⟩, nofun⟩
    · exact ⟨fun hne => absurd rfl hne, fun _ => ⟨hp, rfl, hge, rfl⟩⟩
    · exact ⟨fun hne => absurd rfl hne, fun hpend => absurd (hp.symm.trans hpend) nofun⟩
  · rw [hf] at hfault
    exact absurd hfault nofun

/-- `OVF` is enabled only after `CFG`, so with the whole table written. -/
theorem afterCfg_of_ovfEnabled {s : State} (h : BlockInv s) (ho : ovfEnabled s = true) : s.params.h < s.fgpc := by
  rw [fgpc_of_ovfEnabled h ho]
  omega

/-- Settles O30: the index is in range in every row, and in a block that came from reset its entry is written. -/
theorem tableNeverIndexedOutOfRange : Obligations.TableNeverIndexedOutOfRange := by
  intro s h ho
  have hlt : (afterRow s).cursor < s.params.h := afterRow_cursor_lt h
  obtain ⟨hread, -⟩ := tableComplete_of_fgpc h (afterCfg_of_ovfEnabled h ho)
  have ⟨⟨hw, hfault⟩, _, _, _, _, hpending, _⟩ := h
  refine ⟨fun hr => ?_, fun hr => ?_, fun hr => ?_, hlt, by simp [hread _ hlt],
    handlerInvocation s, execOvf_next.mpr ⟨hw, ho, rfl⟩, ?_⟩
  · rw [afterRow_cursor, if_neg fun hwrap => by simp [handlerRow_eq_wrap_iff.mpr hwrap] at hr]
  · rw [afterRow_cursor, if_pos (handlerRow_eq_wrap_iff.mp hr)]
  · have hp : s.pending = true := handlerRow_eq_flip_iff.mp hr
    simp [afterRow_cursor, hp, hpending hp]
  · rw [handlerInvocation_of_blockInv h ho]
    exact hfault

/-! ### The rows of the closed form -/

theorem rowOf_eq_wrap_iff {h k : Nat} : rowOf h k = .wrap ↔ h ≤ k ∧ k % h = 0 := by
  unfold rowOf
  split
  next hwrap => simp [hwrap]
  next hwrap => split <;> simp [hwrap]

theorem rowOf_eq_flip_iff {h k : Nat} : rowOf h k = .flip ↔ h < k ∧ k % h = 1 := by
  unfold rowOf
  split
  next hwrap => simp [hwrap.2]
  next => split <;> simp_all

section
variable {h : Nat} (hh : 2 ≤ h)
include hh

/-- The index goes up by one from invocation to invocation, back to 0 after `H - 1` (R159). -/
theorem succ_mod_eq (k : Nat) : (k + 1) % h = if k % h + 1 = h then 0 else k % h + 1 := by
  have hlt : k % h < h := Nat.mod_lt _ (by omega)
  rw [Nat.add_mod_eq_ite, Nat.mod_eq_of_lt (show 1 < h by omega)]
  split <;> split <;> omega

/-- A flip comes one invocation after a wrap, and only there (R160). -/
theorem rowOf_succ_eq_flip_iff (k : Nat) : rowOf h (k + 1) = .flip ↔ rowOf h k = .wrap := by
  rw [rowOf_eq_flip_iff, rowOf_eq_wrap_iff, succ_mod_eq hh]
  split <;> omega

theorem rowOf_eq_wrap_iff_exists (k : Nat) : rowOf h k = .wrap ↔ ∃ m, 1 ≤ m ∧ k = m * h := by
  rw [rowOf_eq_wrap_iff]
  constructor
  · rintro ⟨hle, hmod⟩
    exact ⟨k / h, Nat.div_pos hle (by omega), (Nat.div_mul_cancel (Nat.dvd_of_mod_eq_zero hmod)).symm⟩
  · rintro ⟨m, hm, rfl⟩
    exact ⟨Nat.le_mul_of_pos_left h hm, Nat.mul_mod_left m h⟩

theorem rowOf_eq_flip_iff_exists (k : Nat) : rowOf h k = .flip ↔ ∃ m, 1 ≤ m ∧ k = m * h + 1 := by
  cases k with
  | zero => simp [rowOf_eq_flip_iff]
  | succ j => simp [rowOf_succ_eq_flip_iff hh, rowOf_eq_wrap_iff_exists hh]

/-- Each flip is counted when it is performed (R160). -/
theorem flipsAfter_succ (k : Nat) : flipsAfter h (k + 1) = flipsAfter h k + if rowOf h (k + 1) = .flip then 1 else 0 := by
  simp only [rowOf_succ_eq_flip_iff hh, rowOf_eq_wrap_iff, flipsAfter]
  cases k with
  | zero => simp; omega
  | succ j =>
    have hdvd : h ∣ j + 1 ↔ h ≤ j + 1 ∧ (j + 1) % h = 0 :=
      ⟨fun hd => ⟨Nat.le_of_dvd (Nat.succ_pos j) hd, Nat.mod_eq_zero_of_dvd hd⟩, fun hd => Nat.dvd_of_mod_eq_zero hd.2⟩
    simp only [Nat.add_sub_cancel, Nat.succ_div, hdvd]

/-- `flipsAfter` counts the flips among the invocations so far (R160, R162). -/
theorem countP_flip_eq (k : Nat) :
    (List.range (k + 1)).countP (fun j => decide (rowOf h j = .flip)) = flipsAfter h k := by
  induction k with
  | zero => simp [rowOf_eq_flip_iff, flipsAfter]
  | succ k ih =>
    rw [List.range_succ, List.countP_append, ih, flipsAfter_succ hh]
    simp [List.countP_singleton]

/-- A flip exchanges the two values of `CHEN`, every other invocation keeps it (R160). -/
theorem chenAfter_succ (k : Nat) :
    chenAfter h (k + 1) = if rowOf h (k + 1) = .flip then chenAfter h k ^^^ 0b11 else chenAfter h k := by
  unfold chenAfter
  rw [flipsAfter_succ hh]
  split
  next =>
    rcases Nat.mod_two_eq_zero_or_one (flipsAfter h k) with he | ho
    · rw [if_neg (by omega), if_pos he]
      rfl
    · rw [if_pos (by omega), if_neg (by omega)]
      rfl
  next => rfl

end

/-- The closed form's `CHEN` is in its named bits (R85). -/
theorem chenAfter_namedBits (h k : Nat) : chenAfter h k &&& 0x03 = chenAfter h k := by
  unfold chenAfter
  split <;> rfl

/-- Channel A is active when the number of flips is even, B when it is odd (R160). -/
theorem activeChannel_of_chenAfter {s : State} {h k : Nat} (hchen : s.chen = chenAfter h k) :
    activeChannel s = if flipsAfter h k % 2 = 0 then some .a else some .b := by
  rw [activeChannel, State.chenVal, hchen, chenAfter]
  split <;> rfl

/-- Settles O46: the multiples of `H` and their successors, and an induction that counts the flips. -/
theorem switchesAreHInvocationsApart : Obligations.SwitchesAreHInvocationsApart := fun _ k hh =>
  ⟨rowOf_eq_flip_iff_exists hh k, rowOf_eq_wrap_iff_exists hh k, rowOf_succ_eq_flip_iff hh k, countP_flip_eq hh k⟩

/-! ### The machine's invocation is the closed form's -/

section
variable {s : State} (hw : s.params.wellFormed = true) (hform : HandlerForm s)
include hw hform

/-- The cursor before invocation `K`: past the table's end where it is to wrap, else at the index to read (R159, R160). -/
theorem cursor_eq_of_handlerForm :
    s.cursor = if rowOf s.params.h s.k = .wrap then s.params.h else s.k % s.params.h := by
  have hh : 2 ≤ s.params.h := wellFormed_two_le_h hw
  obtain ⟨hzero, hpos⟩ := hform
  cases hk : s.k with
  | zero =>
    obtain ⟨⟨hcursor, -⟩, -⟩ := hzero hk
    rw [if_neg (by rw [rowOf_eq_wrap_iff]; omega), hcursor, Nat.zero_mod]
  | succ j =>
    obtain ⟨hcursor, -⟩ := hpos (by omega)
    rw [hk, Nat.add_sub_cancel] at hcursor
    have hle : j % s.params.h ≤ j := Nat.mod_le _ _
    simp only [rowOf_eq_wrap_iff, succ_mod_eq hh, hcursor]
    split <;> split <;> omega

/-- The switch is pending before invocation `K` exactly when that one is to flip (R160). -/
theorem pending_iff_of_handlerForm : s.pending = true ↔ rowOf s.params.h s.k = .flip := by
  have hh : 2 ≤ s.params.h := wellFormed_two_le_h hw
  obtain ⟨hzero, hpos⟩ := hform
  cases hk : s.k with
  | zero =>
    obtain ⟨⟨-, hpending⟩, -⟩ := hzero hk
    simp [hpending, rowOf_eq_flip_iff]
  | succ j =>
    obtain ⟨-, hpending, -⟩ := hpos (by omega)
    rwa [hk, Nat.add_sub_cancel, ← rowOf_eq_wrap_iff, ← rowOf_succ_eq_flip_iff hh] at hpending

/-- The row that fires is that of invocation `K` (R160). -/
theorem handlerRow_eq_rowOf : handlerRow s = rowOf s.params.h s.k := by
  have hlt : s.k % s.params.h < s.params.h :=
    Nat.mod_lt _ (Nat.lt_of_lt_of_le Nat.two_pos (wellFormed_two_le_h hw))
  have hcursor := cursor_eq_of_handlerForm hw hform
  have hpending := pending_iff_of_handlerForm hw hform
  cases hrow : rowOf s.params.h s.k with
  | flip => exact handlerRow_eq_flip_iff.mpr (hpending.mpr hrow)
  | wrap =>
    have hp : s.pending = false := by simpa [hrow] using hpending
    exact handlerRow_eq_wrap_iff.mpr ⟨hp, by simp [hcursor, hrow]⟩
  | none =>
    have hp : s.pending = false := by simpa [hrow] using hpending
    simp [handlerRow, hp, hcursor, hrow, hlt]

/-- Invocation `K` reads index `K mod H` (R159). -/
theorem afterRow_cursor_eq_mod : (afterRow s).cursor = s.k % s.params.h := by
  have hwrap : rowOf s.params.h s.k = .wrap ↔ s.pending = false ∧ s.params.h ≤ s.cursor := by
    rw [← handlerRow_eq_rowOf hw hform, handlerRow_eq_wrap_iff]
  rw [afterRow_cursor]
  split
  next hyes =>
    obtain ⟨-, hmod⟩ := rowOf_eq_wrap_iff.mp (hwrap.mpr hyes)
    exact hmod.symm
  next hno => rw [cursor_eq_of_handlerForm hw hform, if_neg (hwrap.not.mpr hno)]

/-- Invocation `K` leaves a switch pending exactly when it wraps (R152, R153, R160). -/
theorem afterRow_pending_iff : (afterRow s).pending = true ↔ rowOf s.params.h s.k = .wrap := by
  rw [← handlerRow_eq_rowOf hw hform]
  rcases afterRow_cases s with ⟨-, hr, he⟩ | ⟨-, -, hr, he⟩ | ⟨hp, -, hr, he⟩ <;> rw [hr, he]
  · simp
  · simp
  · simp [hp]

/-- `CHEN` after the row of invocation `K`: the flip exchanges its two legal values (R152, R160). -/
theorem afterRow_chen_eq (hlt : s.params.h < s.fgpc) (hconf : Configured s) :
    (afterRow s).chen = chenAfter s.params.h s.k := by
  obtain ⟨⟨-, -, -, htmask⟩, ⟨-, -, hchen⟩, -⟩ := hconf
  have hnext : chenAfter s.params.h s.k = if handlerRow s = .flip then s.chen ^^^ 0b11 else s.chen := by
    rw [handlerRow_eq_rowOf hw hform]
    obtain ⟨hzero, hpos⟩ := hform
    cases hk : s.k with
    | zero =>
      obtain ⟨-, -, hstart⟩ := hzero hk
      simp [hstart hlt, rowOf_eq_flip_iff, chenAfter, flipsAfter]
    | succ j =>
      obtain ⟨-, -, -, hlast⟩ := hpos (by omega)
      rw [hlast, hk, chenAfter_succ (wellFormed_two_le_h hw), Nat.add_sub_cancel]
  rw [hnext]
  rcases afterRow_cases s with ⟨-, hr, he⟩ | ⟨-, -, hr, he⟩ | ⟨-, -, hr, he⟩ <;> rw [hr, he]
  · rcases hchen with hc | hc
    · simp [State.chenVal, State.tmaskVal, hc, htmask]
    · simp [State.chenVal, State.tmaskVal, hc, htmask]
  · rfl
  · rfl

end

/-- Invocation `K` of a block that came from reset, whole, by the closed forms (R159, R160). -/
theorem handlerInvocation_of_handlerForm {s : State} (hs : BlockInv s) (hform : HandlerForm s) (ho : ovfEnabled s = true) :
    handlerInvocation s =
      { s with
        ifr := 0, chen := chenAfter s.params.h s.k, pending := decide (rowOf s.params.h s.k = .wrap)
        cmpaBuf := s.params.entry (s.k % s.params.h), cmpbBuf := s.params.entry (s.k % s.params.h)
        cursor := s.k % s.params.h + 1, k := s.k + 1 } := by
  have hlt : s.params.h < s.fgpc := afterCfg_of_ovfEnabled hs ho
  obtain ⟨-, hconf⟩ := tableComplete_of_fgpc hs hlt
  have ⟨⟨hw, _⟩, _⟩ := hs
  have hpending : (afterRow s).pending = decide (rowOf s.params.h s.k = .wrap) := by
    rw [Bool.eq_iff_iff, afterRow_pending_iff hw hform, decide_eq_true_eq]
  rw [handlerInvocation_of_blockInv hs ho, afterRow_cursor_eq_mod hw hform, afterRow_chen_eq hw hform hlt hconf, hpending]

/-! ### Every step keeps the closed form -/

/-- A tick leaves the active value of channel A or latches its buffer (R131, R136). -/
theorem clockTick_cmpaAct (s : State) : (clockTick s).cmpaAct = s.cmpaAct ∨ (clockTick s).cmpaAct = s.cmpaBuf := by
  rcases clockTick_cases s with ⟨-, he⟩ | ⟨-, -, -, he⟩ | ⟨-, -, -, he⟩ | ⟨-, -, -, he⟩ | ⟨-, -, -, he⟩ <;> rw [he]
  · exact .inl rfl
  · rw [arriveAt_eq, countUp_frame]
    exact (ite_eq_or_eq _ _ _).symm
  · rw [countUp_frame]
    exact .inl rfl
  · rw [arriveAt_eq, countDown_frame]
    exact (ite_eq_or_eq _ _ _).symm
  · rw [countDown_frame]
    exact .inl rfl

/-- Until an invocation has run, a tick latches only the 0 that the buffer holds (R193). -/
theorem clockTick_keeps_handlerForm {s : State} (hform : HandlerForm s) : HandlerForm (clockTick s) := by
  obtain ⟨hzero, hpos⟩ := hform
  have hact : s.k = 0 → (clockTick s).cmpaAct = 0 := fun hk => by
    obtain ⟨-, ⟨hbuf, hact⟩, -⟩ := hzero hk
    rcases clockTick_cmpaAct s with h | h
    · exact h.trans hact
    · exact h.trans hbuf
  rw [clockTick_frame]
  refine ⟨fun hk => ?_, hpos⟩
  obtain ⟨hcursor, ⟨hbuf, -⟩, hchen⟩ := hzero hk
  exact ⟨hcursor, ⟨hbuf, hact hk⟩, hchen⟩

/-- `CFG` runs before any invocation and connects channel A (R117, R193). -/
theorem configure_keeps_handlerForm {s : State} (hs : BlockInv s) (hform : HandlerForm s) (hfgpc : s.fgpc = s.params.h) :
    HandlerForm (configure s) := by
  obtain ⟨-, -, -, -, -, -, -, -, -, hgie, hk⟩ := hs
  obtain ⟨hzero, -⟩ := hform
  rw [configure_eq]
  refine ⟨fun hnone => ?_, fun hsome => ?_⟩
  · obtain ⟨hcursor, hvalues, -⟩ := hzero hnone
    exact ⟨hcursor, hvalues, fun _ => rfl⟩
  · have : s.fgpc = s.params.h + 2 := hgie.mp (hk hsome)
    omega

/-- The closed form reads `FGPC` only to tell whether `CFG` has run, and neither the table nor `GIE`. -/
theorem handlerForm_withForeground {s : State} (hform : HandlerForm s) {f : Nat} {m : Memory} {g : Bool}
    (hf : s.params.h < f → s.params.h < s.fgpc) : HandlerForm { s with fgpc := f, table := m, gie := g } := by
  obtain ⟨hzero, hpos⟩ := hform
  refine ⟨fun hk => ?_, hpos⟩
  obtain ⟨hcursor, hvalues, hchen⟩ := hzero hk
  exact ⟨hcursor, hvalues, fun hafter => hchen (hf hafter)⟩

/-- An enabled invocation takes the closed form from `K` to `K + 1` (R159, R160). -/
theorem handlerInvocation_keeps_handlerForm {s : State} (hs : BlockInv s) (hform : HandlerForm s)
    (ho : ovfEnabled s = true) : HandlerForm (handlerInvocation s) := by
  rw [handlerInvocation_of_handlerForm hs hform ho]
  exact ⟨nofun, fun _ => ⟨rfl, decide_eq_true_iff.trans rowOf_eq_wrap_iff, rfl, rfl⟩⟩

/-- Every operation keeps the closed form. -/
theorem exec_keeps_handlerForm {s t : State} {i : Instr} (hs : BlockInv s) (hform : HandlerForm s)
    (h : exec i s = .next t) : HandlerForm t := by
  cases i with
  | reset =>
    obtain ⟨-, rfl⟩ := execReset_next.mp h
    exact handlerForm_startState s.params
  | tgen i =>
    obtain ⟨-, -, rfl, hlt, rfl⟩ := execTgen_next.mp h
    exact handlerForm_withForeground hform fun hafter => by omega
  | cfg =>
    obtain ⟨-, -, hfgpc, rfl⟩ := execCfg_next.mp h
    exact configure_keeps_handlerForm hs hform hfgpc
  | sei =>
    obtain ⟨-, -, hfgpc, rfl⟩ := execSei_next.mp h
    exact handlerForm_withForeground hform fun _ => by omega
  | idle =>
    obtain ⟨-, -, -, rfl⟩ := execIdle_next.mp h
    exact hform
  | tick =>
    obtain ⟨-, -, -, rfl⟩ := execTick_next.mp h
    exact clockTick_keeps_handlerForm hform
  | ovf =>
    obtain ⟨-, ho, rfl⟩ := execOvf_next.mp h
    exact handlerInvocation_keeps_handlerForm hs hform ho

/-- Settles O40: a step performs an operation, and every operation keeps the closed form. -/
theorem stepKeepsHandlerClosedForm : Obligations.StepKeepsHandlerClosedForm := fun _ _ hs hform h =>
  step_establishes (P := fun s => BlockInv s ∧ HandlerForm s) (fun _ _ _ hs => hs)
    (fun _ _ _ ⟨hs, hform⟩ => exec_keeps_handlerForm hs hform) ⟨hs, hform⟩ h

/-! ### What is seen of an invocation -/

/-- Settles O47: the whole invocation is the closed form's, and its two values of `CHEN` are the two channels. -/
theorem invocationFollowsTheClosedForm : Obligations.InvocationFollowsTheClosedForm := by
  intro s hs hform ho
  obtain ⟨hread, -⟩ := tableComplete_of_fgpc hs (afterCfg_of_ovfEnabled hs ho)
  have ⟨⟨hw, _⟩, _⟩ := hs
  have hh : 2 ≤ s.params.h := wellFormed_two_le_h hw
  rw [handlerRow_eq_rowOf hw hform]
  refine ⟨rowOf_eq_wrap_iff_exists hh _, rowOf_eq_flip_iff_exists hh _, handlerInvocation s,
    execOvf_next.mpr ⟨hw, ho, rfl⟩, ?_⟩
  rw [handlerInvocation_of_handlerForm hs hform ho]
  refine ⟨rfl, afterRow_cursor_eq_mod hw hform, hread _ (Nat.mod_lt _ (by omega)), rfl, rfl,
    decide_eq_true_iff.trans rowOf_eq_wrap_iff, activeChannel_of_chenAfter rfl⟩

/-- Settles O44: each field of the record is read off the row, the index and the whole invocation. -/
theorem invocationRecordIsClosedForm : Obligations.InvocationRecordIsClosedForm := by
  intro s hs hform ho
  obtain ⟨hread, -⟩ := tableComplete_of_fgpc hs (afterCfg_of_ovfEnabled hs ho)
  have ⟨⟨hw, _⟩, _⟩ := hs
  have hlt : s.k % s.params.h < s.params.h := Nat.mod_lt _ (by have := wellFormed_two_le_h hw; omega)
  have hindex : ovfIndex (afterRow s) = s.k % s.params.h := afterRow_cursor_eq_mod hw hform
  have hload : tableRead (s.k % s.params.h) (afterRow s) = .ok (s.params.entry (s.k % s.params.h)) := by
    rw [tableRead_afterRow, tableRead_ok]
    exact ⟨hlt, hread _ hlt⟩
  have hchen : (handlerInvocation s).chenVal = chenAfter s.params.h s.k := by
    rw [handlerInvocation_of_handlerForm hs hform ho]
    exact chenAfter_namedBits _ _
  simp only [handlerRecord, hindex, hload, hchen, handlerRow_eq_rowOf hw hform, recordOf]

/-! ### The handler trace of a run -/

theorem handlerTrace_append (seen later : List Event) :
    handlerTrace (seen ++ later) = handlerTrace seen ++ handlerTrace later := List.filterMap_append

/-- Only `OVF` shows a record (R15, R161). -/
theorem handlerTrace_observe_other {i : Instr} (hi : i ≠ .ovf) (s t : State) : handlerTrace (observe i s t) = [] := by
  cases i with
  | ovf => exact absurd rfl hi
  | reset => rfl
  | tgen i => rfl
  | cfg => rfl
  | sei => rfl
  | idle => rfl
  | tick => rfl

theorem handlerTrace_observe_ovf {s : State} {r : HandlerRecord} (hr : handlerRecord s = some r) (t : State) :
    handlerTrace (observe .ovf s t) = [r] := by
  simp [observe, hr, handlerTrace]

/-- Only `OVF` and `RESET` change the number of invocations (R40). -/
theorem k_of_exec_other {s t : State} {i : Instr} (h : exec i s = .next t) (hovf : i ≠ .ovf) (hreset : i ≠ .reset) :
    t.k = s.k := by
  cases i with
  | reset => exact absurd rfl hreset
  | ovf => exact absurd rfl hovf
  | tgen i => obtain ⟨-, -, -, -, rfl⟩ := execTgen_next.mp h; rfl
  | cfg => obtain ⟨-, -, -, rfl⟩ := execCfg_next.mp h; rw [configure_eq]
  | sei => obtain ⟨-, -, -, rfl⟩ := execSei_next.mp h; rfl
  | idle => obtain ⟨-, -, -, rfl⟩ := execIdle_next.mp h; rfl
  | tick => obtain ⟨-, -, -, rfl⟩ := execTick_next.mp h; rw [clockTick_frame]

/-- An operation that is no step shows nothing; any other is seen (R15, R88). -/
theorem perform_seen_cases (i : Instr) (r : Run) :
    ((perform i r).state = r.state ∧ (perform i r).seen = r.seen) ∨
    (exec i r.state = .next (perform i r).state ∧
      (perform i r).seen = r.seen ++ observe i r.state (perform i r).state) := by
  cases hr : r.stopped with
  | some x => exact .inl (by simp [perform_of_stopped hr])
  | none =>
    cases he : exec i r.state with
    | next t => exact .inr (by simp [perform_of_next hr he])
    | fault f => exact .inl (by simp [perform, hr, he])
    | refused x => exact .inl (by simp [perform_of_refused hr he])

/-- A run in a block with parameters `p` whose handler has stayed on the closed form, its trace the records number 0 to
`K - 1` (R159, R160, R161). -/
structure Run.FollowsClosedForm (p : Params) (r : Run) : Prop where
  blockInv : BlockInv r.state
  handlerForm : HandlerForm r.state
  params : r.state.params = p
  trace_eq : handlerTrace r.seen = (List.range r.state.k).map (recordOf p)

/-- One more operation, performed or not, keeps a run on the closed form: an `OVF` adds record number `K`. -/
theorem Run.FollowsClosedForm.perform {p : Params} {r : Run} (h : r.FollowsClosedForm p) {i : Instr}
    (hreset : i ≠ .reset) : (perform i r).FollowsClosedForm p := by
  obtain ⟨hinv, hform, hp, htrace⟩ := h
  rcases perform_seen_cases i r with ⟨hstate, hseen⟩ | ⟨hexec, hseen⟩
  · exact ⟨by rwa [hstate], by rwa [hstate], by rwa [hstate], by rwa [hstate, hseen]⟩
  · refine ⟨exec_keeps_blockInv hinv hexec, exec_keeps_handlerForm hinv hform hexec, (exec_params hexec).trans hp, ?_⟩
    rw [hseen, handlerTrace_append, htrace]
    by_cases hovf : i = .ovf
    · subst hovf
      obtain ⟨-, ho, hnext⟩ := execOvf_next.mp hexec
      have hrecord : handlerRecord r.state = some (recordOf p r.state.k) :=
        hp ▸ invocationRecordIsClosedForm r.state hinv hform ho
      have hk : (Machine.perform .ovf r).state.k = r.state.k + 1 := by
        rw [hnext, handlerInvocation_of_handlerForm hinv hform ho]
      rw [handlerTrace_observe_ovf hrecord, hk, List.range_succ, List.map_append, List.map_singleton]
    · rw [handlerTrace_observe_other hovf, k_of_exec_other hexec hovf hreset, List.append_nil]

/-- Settles O45: the run starts on the closed form, and every operation of it keeps to it. -/
theorem handlerTraceIsAFunctionOfTheTable : Obligations.HandlerTraceIsAFunctionOfTheTable := by
  intro p ops hp hops
  suffices h : (runTrace ops (startState p)).FollowsClosedForm p from h.trace_eq
  induction ops using List.reverseRecOn with
  | nil => exact ⟨blockInv_startState hp, handlerForm_startState p, rfl, rfl⟩
  | append_singleton ops i ih =>
    simp only [List.mem_append, List.mem_singleton, not_or] at hops
    obtain ⟨hinit, hlast⟩ := hops
    rw [runTrace_append]
    exact (ih hinit).perform (Ne.symm hlast)

end Sys2Proof.Machine
end

section
/-! Interrupts and their dispatch (spec/60_exceptions.md): which operation is enabled (R175, R176), that a pending overflow
goes first (R171 (b)), and which operation writes which piece of state (R184). -/

namespace Sys2Proof.Machine

/-! ### Which operation is enabled -/

/-- An operation other than `OVF` and `RESET` has a next state where its own condition holds, no fault is recorded and no
overflow is to be taken (R176). -/
theorem exec_next_iff_of_mayRun {s : State} {i : Instr} {own : Prop} (hw : s.params.wellFormed = true)
    (henabled : enabled s i = true ↔ mayRun s = true ∧ own) :
    (∃ t, exec i s = .next t) ↔ s.fault = none ∧ ovfEnabled s = false ∧ own := by
  rw [exec_next_iff_enabled hw, henabled, mayRun_iff, and_assoc]

/-- Settles O7: being enabled is having a next state, and each operation's own condition is read off its guard. -/
theorem enabledExactlyAsDispatchSays : Obligations.EnabledExactlyAsDispatchSays := fun _ hw =>
  ⟨ovfEnabled_iff, (exec_next_iff_enabled hw .reset).mpr rfl, exec_next_iff_enabled hw .ovf,
    fun _ => exec_next_iff_of_mayRun hw enabledTgen_iff, exec_next_iff_of_mayRun hw enabledCfg_iff,
    exec_next_iff_of_mayRun hw enabledSei_iff, exec_next_iff_of_mayRun hw enabledIdle_iff,
    exec_next_iff_of_mayRun hw (enabledTick_iff.trans (and_congr_right fun _ => timerReserved_eq_false))⟩

/-! ### A pending overflow -/

theorem mayRun_of_ovfEnabled {s : State} (ho : ovfEnabled s = true) : mayRun s = false := by
  simp [mayRun, ho]

/-- Settles O8: while an overflow is to be taken nothing but `OVF` and `RESET` may run. -/
theorem pendingOverflowGoesFirst : Obligations.PendingOverflowGoesFirst := fun _ _ hw ho hovf hreset =>
  exec_of_not_mayRun hw (mayRun_of_ovfEnabled ho) hovf hreset

/-! ### Ownership -/

/-- The state `s` with the pieces that operation `i` writes (R184) as they are in `t`: `RESET` writes them all. `TICK`
may use a free value, which the model's own `fresh` counts. -/
def withOwned (i : Instr) (s t : State) : State :=
  match i with
  | .reset => t
  | .tgen _ => { s with table := t.table, fgpc := t.fgpc }
  | .cfg =>
    { s with
      mode := t.mode, top := t.top, presc := t.presc, ien := t.ien, ddr := t.ddr, tmask := t.tmask, chen := t.chen
      fgpc := t.fgpc }
  | .sei => { s with gie := t.gie, fgpc := t.fgpc }
  | .idle => s
  | .tick =>
    { s with
      cnt := t.cnt, dir := t.dir, ifr := t.ifr, cmpaAct := t.cmpaAct, cmpbAct := t.cmpbAct, fresh := t.fresh }
  | .ovf =>
    { s with
      ifr := t.ifr, chen := t.chen, pending := t.pending, cursor := t.cursor, cmpaBuf := t.cmpaBuf
      cmpbBuf := t.cmpbBuf, k := t.k, fault := t.fault }

/-- An operation changes nothing but the pieces that it writes. -/
theorem exec_frame {i : Instr} {s t : State} (h : exec i s = .next t) : t = withOwned i s t := by
  cases i with
  | reset => rfl
  | tgen n => obtain ⟨-, -, -, -, rfl⟩ := execTgen_next.mp h; rfl
  | cfg => obtain ⟨-, -, -, rfl⟩ := execCfg_next.mp h; rw [configure_eq]; rfl
  | sei => obtain ⟨-, -, -, rfl⟩ := execSei_next.mp h; rfl
  | idle => obtain ⟨-, -, -, rfl⟩ := execIdle_next.mp h; rfl
  | tick => obtain ⟨-, -, -, rfl⟩ := execTick_next.mp h; exact clockTick_frame s
  | ovf => obtain ⟨-, -, rfl⟩ := execOvf_next.mp h; exact handlerInvocation_frame s

/-- The table is generated while interrupts are masked: `TGEN` runs with `FGPC` below `H`, and `SEI` comes later. -/
theorem gie_of_exec_tgen {s t : State} {n : Nat} (h : BlockInv s) (hexec : exec (.tgen n) s = .next t) :
    s.gie = false := by
  obtain ⟨-, -, rfl, hlt, -⟩ := execTgen_next.mp hexec
  refine Bool.eq_false_iff.mpr fun hgie => ?_
  have hend : s.fgpc = s.params.h + 2 := fgpc_of_gie h hgie
  omega

/-- Settles O31: a clause that excludes an operation leaves only operations that do not write its pieces; the last one is the
invariant's order of `TGEN` before `SEI`. -/
theorem ownershipOfEveryPiece : Obligations.OwnershipOfEveryPiece := by
  intro s t i hexec hreset
  refine ⟨?_, ?_, ?_, ?_, ?_, ?_, ?_, ?_, ?_, fun hinv j hj => gie_of_exec_tgen hinv (hj ▸ hexec)⟩
  all_goals
    rw [exec_frame hexec]
    cases i with
    | reset => exact absurd rfl hreset
    | _ => simp [withOwned]

end Sys2Proof.Machine
end

section
/-! Reset, start-up and hazards (spec/70_reset_and_hazards.md): what `RESET` leaves (R190), what holds just before `SEI`
(R193), that the table is frozen during playback (R201), and the deferral that keeps a switch free of glitches (R197, R198). -/

namespace Sys2Proof.Machine

/-! ### The deferral -/

/-- A switch is pending only where an invocation has run, and right after the wrap, whose `T[0]` is then still in the
buffer (R153, R155, R197). -/
theorem buffer_of_pending {s : State} (hform : HandlerForm s) (hp : s.pending = true) :
    0 < s.k ∧ s.cmpaBuf = s.params.entry 0 := by
  obtain ⟨hzero, hpos⟩ := hform
  have hk : 0 < s.k := by
    refine Nat.pos_of_ne_zero fun hk => ?_
    obtain ⟨⟨-, hnone⟩, -⟩ := hzero hk
    exact absurd (hnone.symm.trans hp) nofun
  obtain ⟨-, hwrap, hbuf, -⟩ := hpos hk
  obtain ⟨-, hmod⟩ := hwrap.mp hp
  exact ⟨hk, by rw [hbuf, hmod]⟩

/-- Once an invocation has run, interrupts are unmasked, so the foreground is past `CFG` and the block configured (R46). -/
theorem playing_of_k_pos {s : State} (h : BlockInv s) (hk : 0 < s.k) :
    s.gie = true ∧ s.params.h < s.fgpc ∧ Configured s := by
  have ⟨_, _, _, _, _, _, _, _, _, _, hinvoked⟩ := h
  have hgie : s.gie = true := hinvoked hk
  have hlt : s.params.h < s.fgpc := by
    rw [fgpc_of_gie h hgie]
    omega
  obtain ⟨-, hconf⟩ := tableComplete_of_fgpc h hlt
  exact ⟨hgie, hlt, hconf⟩

/-- Once an invocation has run, a tick finds no request: it would have been taken first (R176). -/
theorem ifrOvf_of_mayRun {s : State} (h : BlockInv s) (hk : 0 < s.k) (hmay : mayRun s = true) : s.ifrOvf = false := by
  obtain ⟨hgie, -, -, ⟨hien, -⟩, -⟩ := playing_of_k_pos h hk
  obtain ⟨hfault, ho⟩ := mayRun_iff.mp hmay
  refine Bool.eq_false_iff.mpr fun hflag => ?_
  have hien : s.ienOvf = true := by simp [State.ienOvf, hien]
  exact absurd (ho.symm.trans (ovfEnabled_iff.mpr ⟨hfault, hflag, hien, hgie⟩)) nofun

section
variable {s : State} (h : BlockInv s) (hform : HandlerForm s) (hk : 0 < s.k) (hflag : s.ifrOvf = false)
include h hform hk hflag

/-- A tick up requests nothing. Where it turns down and `LATCH_POINT = {TOP}`, it latches the pending wrap's `T[0]`. -/
theorem clockTick_up_keeps_deferralForm (hdir : s.dir = .up) : DeferralForm (clockTick s) := by
  obtain ⟨-, hlt, hconf⟩ := playing_of_k_pos h hk
  have hrun : timerStopped s = false := timerStopped_of_configured hconf
  have hfits : s.cnt + 1 < 2 ^ s.params.cw := by
    obtain ⟨htop, -, hup, -⟩ := counter_of_blockInv h hlt
    have hbelow : s.cnt < s.top := hup hdir
    have ⟨⟨hw, _⟩, _⟩ := h
    have hm : s.params.m < 2 ^ s.params.cw := wellFormed_fits_m hw
    omega
  rw [clockTick_of_up hrun hdir hfits]
  refine ⟨fun _ hreq => ?_, fun _ hreq => ?_, fun hp hdown hlatch => ?_⟩
  · exact absurd (hflag.symm.trans hreq) nofun
  · exact absurd (hflag.symm.trans hreq) nofun
  · have hedge : s.cnt + 1 = s.top := by
      by_contra hne
      exact absurd ((if_neg hne).symm.trans hdown) nofun
    have hlatches : latchesAt s.params.latch .top = true := by rw [hlatch]; rfl
    exact (if_pos ⟨hedge, hlatches⟩).trans (buffer_of_pending hform hp).2

/-- A tick down requests an invocation only by arriving at BOTTOM. There a pending wrap's `T[0]` is latched, or with
`LATCH_POINT = {TOP}` it is active since TOP. -/
theorem clockTick_down_keeps_deferralForm (hd : DeferralForm s) (hdir : s.dir = .down) : DeferralForm (clockTick s) := by
  obtain ⟨-, hlt, hconf⟩ := playing_of_k_pos h hk
  have hrun : timerStopped s = false := timerStopped_of_configured hconf
  obtain ⟨-, -, -, hdown⟩ := counter_of_blockInv h hlt
  obtain ⟨-, -, hsinceTop⟩ := hd
  rw [clockTick_of_down hrun hdir (hdown hdir)]
  by_cases hedge : s.cnt = 1
  · simp only [hedge, if_true, true_and]
    refine ⟨fun _ _ => ⟨rfl, rfl⟩, fun hp _ => ?_, nofun⟩
    show (if latchesAt s.params.latch .bottom = true then s.cmpaBuf else s.cmpaAct) = s.params.entry 0
    split
    next => exact (buffer_of_pending hform hp).2
    next hnot => exact hsinceTop hp hdir (by simpa [latchesAt_bottom_iff] using hnot)
  · simp only [hedge, if_false, false_and]
    refine ⟨fun _ hreq => ?_, fun _ hreq => ?_, fun hp _ hlatch => hsinceTop hp hdir hlatch⟩
    · exact absurd (hflag.symm.trans hreq) nofun
    · exact absurd (hflag.symm.trans hreq) nofun

end

/-- The deferral asks nothing of a block in which no invocation has run. -/
theorem deferralForm_of_k_zero {s : State} (hform : HandlerForm s) (hk : s.k = 0) : DeferralForm s := by
  have hnone : ¬s.pending = true := fun hp => Nat.ne_of_gt (buffer_of_pending hform hp).1 hk
  exact ⟨fun hpos => by omega, fun hp => absurd hp hnone, fun hp => absurd hp hnone⟩

/-- A tick keeps the deferral, for every `LATCH_POINT` (R136, R197). -/
theorem clockTick_keeps_deferralForm {s : State} (h : BlockInv s) (hform : HandlerForm s) (hd : DeferralForm s)
    (hmay : mayRun s = true) : DeferralForm (clockTick s) := by
  rcases Nat.eq_zero_or_pos s.k with hk | hk
  · exact deferralForm_of_k_zero (clockTick_keeps_handlerForm hform) (by rw [clockTick_frame]; exact hk)
  · have hflag : s.ifrOvf = false := ifrOvf_of_mayRun h hk hmay
    cases hdir : s.dir with
    | up => exact clockTick_up_keeps_deferralForm h hform hk hflag hdir
    | down => exact clockTick_down_keeps_deferralForm h hform hk hflag hd hdir

/-- An invocation serves the request, and it leaves a switch pending only if it is the wrap, not the first invocation, so
that it runs at BOTTOM with the counter about to count up (R197). -/
theorem handlerInvocation_keeps_deferralForm {s : State} (h : BlockInv s) (hform : HandlerForm s) (hd : DeferralForm s)
    (ho : ovfEnabled s = true) : DeferralForm (handlerInvocation s) := by
  obtain ⟨-, hflag, -⟩ := ovfEnabled_iff.mp ho
  have ⟨⟨hw, _⟩, _⟩ := h
  have hh : 2 ≤ s.params.h := wellFormed_two_le_h hw
  obtain ⟨hbottom, -⟩ := hd
  rw [handlerInvocation_of_handlerForm h hform ho]
  refine ⟨fun _ hreq => ?_, fun _ hreq => ?_, fun hp hdown _ => ?_⟩
  · simp [State.ifrOvf] at hreq
  · simp [State.ifrOvf] at hreq
  · obtain ⟨hge, -⟩ := rowOf_eq_wrap_iff.mp (of_decide_eq_true hp)
    obtain ⟨-, hup⟩ := hbottom (by omega) hflag
    exact absurd (hup.symm.trans hdown) nofun

/-- Every operation keeps the deferral. -/
theorem exec_keeps_deferralForm {s t : State} {i : Instr} (h : BlockInv s) (hform : HandlerForm s) (hd : DeferralForm s)
    (hexec : exec i s = .next t) : DeferralForm t := by
  cases i with
  | reset =>
    obtain ⟨-, rfl⟩ := execReset_next.mp hexec
    exact deferralForm_startState s.params
  | tgen i =>
    obtain ⟨-, -, -, -, rfl⟩ := execTgen_next.mp hexec
    exact hd
  | cfg =>
    obtain ⟨-, -, -, rfl⟩ := execCfg_next.mp hexec
    rw [configure_eq]
    exact hd
  | sei =>
    obtain ⟨-, -, -, rfl⟩ := execSei_next.mp hexec
    exact hd
  | idle =>
    obtain ⟨-, -, -, rfl⟩ := execIdle_next.mp hexec
    exact hd
  | tick =>
    obtain ⟨-, hmay, -, rfl⟩ := execTick_next.mp hexec
    exact clockTick_keeps_deferralForm h hform hd hmay
  | ovf =>
    obtain ⟨-, ho, rfl⟩ := execOvf_next.mp hexec
    exact handlerInvocation_keeps_deferralForm h hform hd ho

/-- Settles O42: a step performs an operation, and every operation keeps the deferral. -/
theorem stepKeepsDeferral : Obligations.StepKeepsDeferral := fun _ _ hs hform hd h =>
  step_establishes (P := fun s => BlockInv s ∧ HandlerForm s ∧ DeferralForm s) (fun _ _ _ hs => hs)
    (fun _ _ _ ⟨hs, hform, hd⟩ => exec_keeps_deferralForm hs hform hd) ⟨hs, hform, hd⟩ h

/-! ### The flip -/

/-- When the flip is requested, both active registers hold the wrap's `T[0]`: no channel has a pulse if that is 0 (R198). -/
theorem active_zero_at_flip {s : State} (h : BlockInv s) (hd : DeferralForm s) (hentry : s.params.entry 0 = 0)
    (ho : ovfEnabled s = true) (hp : s.pending = true) : s.cmpaAct = 0 ∧ s.cmpbAct = 0 := by
  obtain ⟨-, hflag, -⟩ := ovfEnabled_iff.mp ho
  obtain ⟨-, hactive, -⟩ := hd
  obtain ⟨-, -, -, -, -, -, ⟨-, hpair⟩, -⟩ := h
  have hzero : s.cmpaAct = 0 := (hactive hp hflag).trans hentry
  exact ⟨hzero, hpair ▸ hzero⟩

/-- Driven pins are low while both active registers are 0 (R139, R140). -/
theorem pins_of_active_zero {s : State} (hddr : s.ddr = 0b11) (hact : s.cmpaAct = 0 ∧ s.cmpbAct = 0) :
    (waveform s .a = false ∧ waveform s .b = false) ∧ pins s = (.low, .low) := by
  obtain ⟨hactA, hactB⟩ := hact
  have ha : waveform s .a = false := waveform_of_zero hactA
  have hb : waveform s .b = false := waveform_of_zero hactB
  exact ⟨⟨ha, hb⟩, pins_of_waveforms_zero hddr ha hb⟩

/-- Settles O43: the invocation changes neither the active registers nor `DDR`, so what makes the pins low before the flip
makes them low after it. -/
theorem flipIsFreeOfGlitches : Obligations.FlipIsFreeOfGlitches := by
  intro s h _ hd hentry ho hp
  obtain ⟨-, -, ⟨-, hddr, -⟩, -⟩ := tableComplete_of_fgpc h (afterCfg_of_ovfEnabled h ho)
  have hact : s.cmpaAct = 0 ∧ s.cmpbAct = 0 := active_zero_at_flip h hd hentry ho hp
  obtain ⟨hwaves, hbefore⟩ := pins_of_active_zero hddr hact
  have hexec : exec .ovf s = .next (handlerInvocation s) := by
    have ⟨⟨hw, _⟩, _⟩ := h
    exact execOvf_next.mpr ⟨hw, ho, rfl⟩
  obtain ⟨-, hafter⟩ : _ ∧ pins (handlerInvocation s) = (.low, .low) := by
    refine pins_of_active_zero ?_ ?_ <;> rw [handlerInvocation_frame]
    · exact hddr
    · exact hact
  obtain ⟨-, -, hflip⟩ := oneActiveChannel s h
  exact ⟨hwaves, hbefore, _, hexec, hafter, (hflip _ hexec).trans (if_pos hp)⟩

/-! ### Start-up -/

/-- Settles O20: interrupts are still masked, so no invocation has run, and the closed form before the first one gives what
`CFG` does not write. -/
theorem readyBeforeUnmasking : Obligations.ReadyBeforeUnmasking := by
  intro s h hform hfgpc
  have hlt : s.params.h < s.fgpc := by omega
  have hk : s.k = 0 := by
    by_contra hne
    obtain ⟨hgie, -⟩ := playing_of_k_pos h (Nat.pos_of_ne_zero hne)
    have hend : s.fgpc = s.params.h + 2 := fgpc_of_gie h hgie
    omega
  obtain ⟨hread, ⟨hmode, hpresc, htop, htmask⟩, ⟨hien, hddr, -⟩, -⟩ := tableComplete_of_fgpc h hlt
  obtain ⟨hzero, -⟩ := hform
  obtain ⟨⟨hcursor, hpending⟩, ⟨hbuf, hact⟩, hchen⟩ := hzero hk
  obtain ⟨-, -, -, -, -, -, ⟨hbufPair, hactPair⟩, -⟩ := h
  exact ⟨fun i hi => by simp [hread i hi], by simp [State.wgm, hmode], htop, by simp [State.cs, hpresc], hchen hlt, htmask,
    by simp [State.ienOvf, hien], hddr, hcursor, hpending, hbuf, hbufPair ▸ hbuf, hact, hactPair ▸ hact⟩

/-! ### The frozen table -/

/-- Settles O32: of the operations that write the table, `TGEN` runs while interrupts are masked and `RESET` is excluded. -/
theorem tableFrozenDuringPlayback : Obligations.TableFrozenDuringPlayback := by
  intro s t i h hgie hexec hreset
  rcases exec_table_cases hexec with ⟨n, rfl, -⟩ | ⟨hi, -⟩ | ⟨-, -, ht⟩
  · exact absurd ((gie_of_exec_tgen h hexec).symm.trans hgie) nofun
  · exact absurd hi hreset
  · exact ht

/-! ### Reset -/

/-- Settles O12: the next state is the reset state but for the parameters and the model's own fields, and there no pin is
driven. -/
theorem resetFromAnyState : Obligations.ResetFromAnyState :=
  ⟨rfl, fun s hw => ⟨resetState s, execReset_next.mpr ⟨hw, rfl⟩, rfl, Memory.read_reset, resetState_fault s,
    pins_of_undriven (resetState_ddr s)⟩⟩

end Sys2Proof.Machine
end

section
/-! Words and steps (spec/30_encoding.md sections 1 and 2, spec/60_exceptions.md R171): which reason an invalid word is given
(R89, R90), that a step performs what the next word decodes to (R80, R88), and that a fault is a recorded next state. -/

namespace Sys2Proof

/-! ### The reasons of invalid words -/

/-- A code that is not reserved leaves the `zero` field as the next thing to be named (notes/assumptions/21.md). -/
theorem decode_of_zeroField {w : OpWord} (hopc : (opcField w).toNat < 7) (hzero : zeroField w ≠ 0) :
    decode w = .invalid .zeroFieldNotZero := by
  rw [decode, if_neg (Nat.not_le.mpr hopc), if_neg hzero]

/-- The index of an operation without an operand is named last (R81, notes/assumptions/21.md). -/
theorem decode_of_index {w : OpWord} {i : Instr} (hplain : ∀ n, i ≠ .tgen n) (hopc : opcField w = opcodeOf i)
    (hzero : zeroField w = 0) (hidx : idxField w ≠ 0) : decode w = .invalid .indexNotZero := by
  have hlt : (opcField w).toNat < 7 := hopc ▸ opcodeOf_lt i
  rw [decode, if_neg (Nat.not_le.mpr hlt), if_pos hzero, hopc, decodeFields_of_plain hplain, decodePlain, if_neg hidx]

/-- Settles O3: eight of the words are encodings of operations; the other four break R89 each in one field. -/
theorem listedWordsDecodeAsListed : Obligations.ListedWordsDecodeAsListed := by
  have hencoded {w : OpWord} (i : Instr) (hi : i.wellFormed = true) (hw : encode i = w) : decode w = .op i :=
    decode_eq_op_iff_encode.mpr ⟨hw, hi⟩
  exact ⟨hencoded .reset rfl rfl, hencoded (.tgen 99) rfl rfl, hencoded (.tgen 65535) rfl rfl, hencoded .cfg rfl rfl,
    hencoded .sei rfl rfl, hencoded .idle rfl rfl, hencoded .tick rfl rfl, hencoded .ovf rfl rfl,
    decode_of_reserved (by decide), decode_of_index (i := .cfg) nofun rfl rfl (by decide),
    decode_of_zeroField (by decide) (by decide), decode_of_index (i := .tick) nofun rfl rfl (by decide)⟩

namespace Machine

/-! ### The step of a word -/

/-- The word at the head of the trace is taken off and what it decodes to is performed (R80, R88). -/
theorem step_of_head {s : State} {w : OpWord} {rest : List OpWord} {i : Instr} (ht : s.trace = w :: rest)
    (hw : decode w = .op i) : step s = exec i { s with trace := rest } := by
  simp only [step, nextOp, ht, hw]

/-- Settles O5: a word placed in front is the head of the trace, and without it the state is the one before. -/
theorem stepRunsTheDecodedWord : Obligations.StepRunsTheDecodedWord :=
  ⟨fun _ _ _ _ => step_of_head, fun s i hi =>
    step_of_head (s := placeWord (encode i) s) (rest := s.trace) rfl (decode_eq_op_iff_encode.mpr ⟨rfl, hi⟩)⟩

/-! ### No fault outcome -/

theorem ifWellFormed_ne_fault {s : State} {a : Result} {f : Fault} (h : a ≠ .fault f) : ifWellFormed s a ≠ .fault f := by
  unfold ifWellFormed
  split
  · exact h
  · nofun

theorem ifEnabled_ne_fault {i : Instr} {c : Bool} {a : Result} {f : Fault} (h : a ≠ .fault f) :
    ifEnabled i c a ≠ .fault f := by
  cases c with
  | false => nofun
  | true => exact h

/-- Behind its guards an operation answers a next state, recorded faults included, or `TICK` refuses a reserved setting
(R132, R171; notes/assumptions/4.md). -/
theorem exec_ne_fault (i : Instr) (s : State) (f : Fault) : exec i s ≠ .fault f := by
  cases i with
  | reset => exact ifWellFormed_ne_fault nofun
  | tick =>
    refine ifWellFormed_ne_fault (ifEnabled_ne_fault ?_)
    split <;> nofun
  | _ => exact ifWellFormed_ne_fault (ifEnabled_ne_fault nofun)

/-- Settles O10: a step is a refusal or one operation, and no operation answers a fault. -/
theorem noStepStopsWithAFault : Obligations.NoStepStopsWithAFault := by
  refine fun s f => ⟨?_, fun i => exec_ne_fault i s f⟩
  unfold step
  split
  · exact exec_ne_fault _ _ f
  · nofun

end Machine
end Sys2Proof
end

section
/-! The counter outside its width (spec/42_counter_compare.md R131, R133): the ticks that no rule gives a count for
(notes/assumptions/8.md). -/

namespace Sys2Proof.Machine

/-- With no fault, no overflow to be taken and the counter running, `TICK` is one timer clock (R131, R132). -/
theorem exec_tick_of_running {s : State} (hw : s.params.wellFormed = true) (hfault : s.fault = none)
    (ho : ovfEnabled s = false) (hwgm : s.wgm = 1) (hcs : s.cs = 1) : exec .tick s = .next (clockTick s) :=
  execTick_next.mpr ⟨hw, mayRun_iff.mpr ⟨hfault, ho⟩, timerReserved_eq_false.mpr (.inr (.inr ⟨hwgm, hcs⟩)), rfl⟩

/-- All that is known of a free count: it is some value of the width, and one more free value is counted. -/
theorem setCntFree_eq (s : State) :
    ∃ v < 2 ^ s.params.cw, setCntFree s = { s with cnt := v, fresh := s.fresh + 1 } :=
  ⟨Config.freeCount s.fresh % 2 ^ s.params.cw, Nat.mod_lt _ (Nat.two_pow_pos _), rfl⟩

/-- A tick of a running counter that counts up, whole, by the value it counts to (R131, R136). -/
theorem clockTick_of_countUp {s : State} {v n : Nat} (hrun : timerStopped s = false) (hdir : s.dir = .up)
    (hcount : countUp s = { s with cnt := v, fresh := n }) :
    clockTick s =
      { s with
        cnt := v
        fresh := n
        dir := if v = s.top then .down else .up
        cmpaAct := if v = s.top ∧ s.params.latch ≠ .bottom then s.cmpaBuf else s.cmpaAct
        cmpbAct := if v = s.top ∧ s.params.latch ≠ .bottom then s.cmpbBuf else s.cmpbAct } := by
  rw [clockTick, if_neg (by simp [hrun]), hdir]
  simp only [tickUp, hcount, arriveAt_eq, latchesAt_top_iff]
  by_cases htop : v = s.top
  · simp [htop, setDir]
  · simp [htop, hdir]

/-- A tick of a running counter that counts down, whole, by the value it counts to (R131, R135, R136). -/
theorem clockTick_of_countDown {s : State} {v n : Nat} (hrun : timerStopped s = false) (hdir : s.dir = .down)
    (hcount : countDown s = { s with cnt := v, fresh := n }) :
    clockTick s =
      { s with
        cnt := v
        fresh := n
        dir := if v = 0 then .up else .down
        ifr := if v = 0 then 1 else s.ifr
        cmpaAct := if v = 0 ∧ s.params.latch ≠ .top then s.cmpaBuf else s.cmpaAct
        cmpbAct := if v = 0 ∧ s.params.latch ≠ .top then s.cmpbBuf else s.cmpbAct } := by
  rw [clockTick, if_neg (by simp [hrun]), hdir]
  simp only [tickDown, hcount, arriveAt_eq, latchesAt_bottom_iff]
  by_cases hzero : v = 0
  · simp [hzero, setDir]
  · simp [hzero, hdir]

/-- Settles O22: the count is a free value, and the tick goes on from it as from any count. -/
theorem countOutsideTheWidthIsFree : Obligations.CountOutsideTheWidthIsFree := by
  intro s hw hfault ho hwgm hcs
  have hexec : exec .tick s = .next (clockTick s) := exec_tick_of_running hw hfault ho hwgm hcs
  have hrun : timerStopped s = false := timerStopped_of_running hwgm hcs
  obtain ⟨v, hv, hfree⟩ := setCntFree_eq s
  refine ⟨fun hdir hnot => ⟨v, hv, ?_⟩, fun hdir hzero => ⟨v, hv, ?_⟩⟩
  · have hcount := (countUp_of_not hnot).trans hfree
    rw [hexec, clockTick_of_countUp hrun hdir hcount]
  · have hcount := (countDown_of_zero hzero).trans hfree
    rw [hexec, clockTick_of_countDown hrun hdir hcount]

end Sys2Proof.Machine
end
